-- ==== Sys2Proof/Word.lean ====
section
/-! DEFINITION. The word types of the CORE (R13, R14, R15; `00_scope.md`). -/

namespace Sys2Proof

/-- A word: 32 bits, bit 31 the most significant (R13). -/
abbrev Word := BitVec 32

/-- One byte of the host's view of a word (R63). -/
abbrev Byte := BitVec 8

/-- A word read as IEEE 754 binary32: sign bit 31, exponent bits 30:23, fraction bits 22:0 (R14). -/
abbrev F32 := BitVec 32

/-- A complex value: a pair of binary32 (R15, R22). -/
structure Cplx where
  re : F32
  im : F32
  deriving DecidableEq, Repr, Inhabited

end Sys2Proof
end

