-- ==== Sys2Proof/Syntax.lean ====
section
/-! DEFINITION. The seventeen commands (R92, R98; `30_encoding.md`), one constructor per row of `opcode_table.json`, and the
four words that encode one (R90). -/

namespace Sys2Proof

/-- A CFFT context (R40): 0 and 1 belong to the filter bank, 2 is the user's. -/
inductive Ctx where
  | c0
  | c1
  | c2
  deriving DecidableEq, Repr

/-- An MDCT slot (R44): 0 is the short MDCT (256), 1 the long one (2048). -/
inductive Slot where
  | m0
  | m1
  deriving DecidableEq, Repr

/-- The window sequence of a frame (R96). -/
inductive WindowSequence where
  | onlyLong
  | longStart
  | eightShort
  | longStop
  deriving DecidableEq, Repr

/-- The window shape bit: 0 is Sine, 1 is KBD (R97). -/
inductive Shape where
  | sine
  | kbd
  deriving DecidableEq, Repr

/-- The sign `isign` of a transform (R95): `pos` is +1, backward; `neg` is -1, forward. -/
inductive Sign where
  | pos
  | neg
  deriving DecidableEq, Repr

/-- A factor of a transform size, the fan-in of one butterfly (R18, R40). -/
inductive Radix where
  | r2
  | r3
  | r4
  | r5
  deriving DecidableEq, Repr

/-- The factor as a number. -/
def Radix.toNat : Radix → Nat
  | .r2 => 2
  | .r3 => 3
  | .r4 => 4
  | .r5 => 5

/-- The commands of R98. Address operands are word addresses in DMEM (R93); sizes are unsigned (R94). -/
inductive Instr where
  /-- `NOP` (R252). -/
  | nop
  /-- `HALT` (R253). -/
  | halt
  /-- `CFFT_INIT c2, N` (R150). The context is always 2, so it is no operand. -/
  | cfftInit (n : Word)
  /-- `FB_INIT frameLength` (R220). -/
  | fbInit (frameLength : Word)
  /-- `CFFT_FWD cK, @A` (R191). -/
  | cfftFwd (c : Ctx) (a : Word)
  /-- `CFFT_BWD cK, @A` (R192). -/
  | cfftBwd (c : Ctx) (a : Word)
  /-- `IMDCT mK, @SRC, @DST` (R202). -/
  | imdct (m : Slot) (src dst : Word)
  /-- `MDCT mK, @SRC, @DST` (R207). -/
  | mdct (m : Slot) (src dst : Word)
  /-- `IFB ws, shape, shape_prev, @FREQ, @TIME, @OVL` (R223). -/
  | ifb (ws : WindowSequence) (shape shapePrev : Shape) (freq time ovl : Word)
  /-- `FFB ws, shape, shape_prev, @IN, @OUT` (R236). -/
  | ffb (ws : WindowSequence) (shape shapePrev : Shape) (inp out : Word)
  /-- `CMUL @SRC, @DST` (R131). -/
  | cmul (src dst : Word)
  /-- `PASS2P cK, iw, ido, l1, @SRC, @DST` (R165). -/
  | pass2p (c : Ctx) (iw ido l1 : BitVec 16) (src dst : Word)
  /-- `PASS2N` (R166). -/
  | pass2n (c : Ctx) (iw ido l1 : BitVec 16) (src dst : Word)
  /-- `PASS4P` (R169). -/
  | pass4p (c : Ctx) (iw ido l1 : BitVec 16) (src dst : Word)
  /-- `PASS4N` (R170). -/
  | pass4n (c : Ctx) (iw ido l1 : BitVec 16) (src dst : Word)
  /-- `PASS3 cK, isign, iw, ido, l1, @SRC, @DST` (R167). -/
  | pass3 (c : Ctx) (isign : Sign) (iw ido l1 : BitVec 16) (src dst : Word)
  /-- `PASS5 cK, isign, iw, ido, l1, @SRC, @DST` (R171). -/
  | pass5 (c : Ctx) (isign : Sign) (iw ido l1 : BitVec 16) (src dst : Word)
  deriving DecidableEq, Repr

/-- One command as four words `W0, W1, W2, W3` (R90). -/
structure Descriptor where
  w0 : Word
  w1 : Word
  w2 : Word
  w3 : Word
  deriving DecidableEq, Repr

end Sys2Proof
end

