-- ==== Sys2Proof/Config.lean ====
section
/-! DEFINITION. What an implementation fixes: the parameters of R11 and R12 (`00_scope.md`), and the free values, constants
with no body, that stand for what the spec leaves open. -/

namespace Sys2Proof

/-- `FRAME_LEN` (R11). -/
def frameLen : Nat := 1024

/-- `NSHORT` (R11). -/
def nShort : Nat := 128

/-- `NFLAT` (R11). -/
def nFlat : Nat := 448

/-- `TRANS` (R11). -/
def trans : Nat := 64

/-- `CFFT_NMAX` (R12). -/
def cfftNMax : Nat := 512

/-- `CFFT_NMIN` (R12). -/
def cfftNMin : Nat := 2

/-- `NF_MAX` (R12). -/
def nfMax : Nat := 6

/-- `MDCT_N[m]` (R11): the size of an MDCT slot. -/
def mdctSize : Slot → Nat
  | .m0 => 256
  | .m1 => 2048

/-- The open parameters of R12 that a rule mentions; fixed for one machine, held in `State`. -/
structure Params where
  /-- `DMEM_WORDS` (R12, R60). -/
  dmemWords : Nat
  deriving DecidableEq, Repr

/-- The spec's default: `DMEM_WORDS = 65536` (R12). DESIGN CHOICE of a legal value, log entry 2. -/
def Params.default : Params := { dmemWords := 65536 }

/-- The legal range of `DMEM_WORDS`: 8192 to 2^31 (R12). -/
def Params.legal (p : Params) : Bool := decide (8192 ≤ p.dmemWords) && decide (p.dmemWords ≤ 2 ^ 31)

/-- Free values: the words left in the regions of a command that the reset input interrupted (R341). Log entry 11. -/
opaque Config.freeWord : Nat → Word

/-- Free value: `TW` at a fraction `p/q` of a turn for which R276 lists no item. No accepted size reaches it. Log entry 7. -/
opaque Config.twUnlisted : Nat → Nat → Cplx

/-- Free value: an element beyond the end of an internal array or table. No state a run reaches reads one. Log entry 6. -/
opaque Config.outOfArray : Word

end Sys2Proof
end

