-- ==== Sys2Proof/Machine/Float.lean ====
section
/-! DEFINITION. IEEE 754 binary32 arithmetic of the CORE (R14, `00_scope.md`; R50 to R56, `10_state.md`): `fadd`, `fsub`,
`fmul`, each the exact result rounded once to nearest, ties to even, and `fneg`. Every finite binary32 is a whole multiple of
2^-149, so exact sums are integers in that unit and exact products integers in the unit 2^-298. -/

namespace Sys2Proof.Machine

/-- The canonical quiet NaN (R14, R52). -/
def qnan : F32 := 0x7FC00000

/-- Positive infinity (R53); below it, read as numbers, stand all finite magnitudes. -/
def infBits : Nat := 0x7F800000

/-- The sign bit (R14). -/
def fsign (a : F32) : Bool := a.msb

/-- The biased exponent, bits 30:23 (R14). -/
def fexp (a : F32) : Nat := a.toNat / 2 ^ 23 % 256

/-- The fraction, bits 22:0 (R14). -/
def ffrac (a : F32) : Nat := a.toNat % 2 ^ 23

/-- A NaN, quiet or signalling (R52). -/
def isNaN (a : F32) : Bool := fexp a == 255 && ffrac a != 0

/-- An infinity (R53). -/
def isInf (a : F32) : Bool := fexp a == 255 && ffrac a == 0

/-- Neither NaN nor infinity. -/
def isFinite (a : F32) : Bool := fexp a != 255

/-- The magnitude of a finite value in the unit 2^-149; a subnormal counts at its value (R54). -/
def fmag (a : F32) : Nat :=
  if fexp a = 0 then ffrac a else (2 ^ 23 + ffrac a) * 2 ^ (fexp a - 1)

/-- The value of a finite word in the unit 2^-149. -/
def fval (a : F32) : Int := if fsign a then -(fmag a : Int) else (fmag a : Int)

/-- The exponent and fraction bits of the magnitude `n * 2^(-149-k)` rounded to nearest, ties to even (R51), with gradual
underflow (R54), infinity on overflow (R53). `q` is the place of the last bit kept. -/
def roundBits (k n : Nat) : Nat :=
  if n = 0 then 0
  else
    let q := max k (Nat.log2 n - 23)
    let m := n / 2 ^ q
    let rest := 2 * (n % 2 ^ q)
    let up := decide (2 ^ q < rest) || (rest == 2 ^ q && m % 2 == 1)
    min infBits ((q - k) * 2 ^ 23 + (if up then m + 1 else m))

/-- A word from its sign and its other 31 bits. -/
def withSign (s : Bool) (bits : Nat) : F32 := BitVec.ofNat 32 (bits + if s then 2 ^ 31 else 0)

/-- `fadd` (R14, R51 to R55): NaN and `inf - inf` give the canonical NaN; an exact zero sum is `+0` unless both operands are
negative. -/
def fadd (a b : F32) : F32 :=
  if isNaN a || isNaN b then qnan
  else if isInf a then (if isInf b && fsign a != fsign b then qnan else a)
  else if isInf b then b
  else
    let x := fval a + fval b
    if x = 0 then withSign (fsign a && fsign b) 0
    else withSign (decide (x < 0)) (roundBits 0 x.natAbs)

/-- `fneg`: the sign bit inverted, for every bit pattern (R14, R56). -/
def fneg (a : F32) : F32 := a ^^^ 0x80000000

/-- `fsub(a, b)` is `fadd(a, fneg(b))` for operands that are not NaN; a NaN operand gives the canonical NaN either way
(R51, R52). -/
def fsub (a b : F32) : F32 := fadd a (fneg b)

/-- `fmul` (R14, R51 to R55): NaN and `0 * inf` give the canonical NaN; the sign is the exclusive or of the operands' signs. -/
def fmul (a b : F32) : F32 :=
  if isNaN a || isNaN b then qnan
  else if isInf a || isInf b then
    (if (isFinite a && fmag a == 0) || (isFinite b && fmag b == 0) then qnan
     else withSign (fsign a != fsign b) infBits)
  else withSign (fsign a != fsign b) (roundBits 149 (fmag a * fmag b))

end Sys2Proof.Machine
end

