-- ==== Sys2Proof/Machine/Complex.lean ====
section
/-! DEFINITION. Complex values (R15), the twiddle multiplier `CM` (R130) and its call-site forms (R132,
`40_complex_primitive.md`), and the reading of an internal array's element. -/

namespace Sys2Proof.Machine

/-- Element `i` of an array of `F32`. Beyond the end: a free value (log entry 6). -/
def elemF (xs : List F32) (i : Nat) : F32 := xs.getD i Config.outOfArray

/-- Element `i` of a complex array. Beyond the end: a free value (log entry 6). -/
def elemC (xs : List Cplx) (i : Nat) : Cplx := xs.getD i ⟨Config.outOfArray, Config.outOfArray⟩

/-- `cadd` (R15). -/
def cadd (a b : Cplx) : Cplx := ⟨fadd a.re b.re, fadd a.im b.im⟩

/-- `csub` (R15). -/
def csub (a b : Cplx) : Cplx := ⟨fsub a.re b.re, fsub a.im b.im⟩

/-- The twiddle multiplier `CM(x1, x2, c1, c2)` (R130). -/
def cm (x1 x2 c1 c2 : F32) : F32 × F32 :=
  (fadd (fmul x1 c1) (fmul x2 c2), fsub (fmul x2 c1) (fmul x1 c2))

/-- `ROTB(t, w)` (R132): the first output of `CM` is the imaginary part. -/
def rotB (t w : Cplx) : Cplx :=
  let y := cm t.im t.re w.re w.im
  ⟨y.2, y.1⟩

/-- `ROTF(t, w)` (R132). -/
def rotF (t w : Cplx) : Cplx :=
  let y := cm t.re t.im w.re w.im
  ⟨y.1, y.2⟩

/-- `ROT(t, w, isign)` (R132). -/
def rot (isign : Sign) (t w : Cplx) : Cplx :=
  match isign with
  | .pos => rotB t w
  | .neg => rotF t w

end Sys2Proof.Machine
end

