-- ==== Sys2Proof/Machine/RomTwiddle.lean ====
section
/-! DEFINITION. The 497 first-octant twiddle values `TWOCT[g]` (R276, `50_rom_tables.md`), word for word from the listing:
`g = p/q` in lowest terms, `0 <= g <= 1/8`, in increasing order of `g`. -/

namespace Sys2Proof.Machine

/-- One item of R276: the fraction `p/q` of a turn in lowest terms, and the words of its cosine and sine. -/
structure OctantEntry where
  p : Nat
  q : Nat
  re : Nat
  im : Nat
  deriving DecidableEq, Repr

/-- `TWOCT` (R276), items 0 to 31. -/
def twoct0 : List OctantEntry :=
  [⟨0, 1, 0x3F800000, 0x00000000⟩, ⟨1, 1620, 0x3F7FFF82, 0x3B7E2E6D⟩, ⟨1, 972, 0x3F7FFEA1, 0x3BD3D11D⟩,
   ⟨1, 810, 0x3F7FFE07, 0x3BFE2DF0⟩, ⟨1, 540, 0x3F7FFB90, 0x3C3EA1D8⟩, ⟨1, 512, 0x3F7FFB11, 0x3C490E90⟩,
   ⟨1, 486, 0x3F7FFA86, 0x3C53CFFB⟩, ⟨1, 480, 0x3F7FFA63, 0x3C5675BE⟩, ⟨1, 432, 0x3F7FF912, 0x3C6E4987⟩,
   ⟨1, 405, 0x3F7FF81D, 0x3C7E2BFB⟩, ⟨1, 384, 0x3F7FF73A, 0x3C86090A⟩, ⟨1, 360, 0x3F7FF605, 0x3C8EF859⟩,
   ⟨1, 324, 0x3F7FF3AD, 0x3C9EDA92⟩, ⟨1, 320, 0x3F7FF35E, 0x3CA0D6D6⟩, ⟨1, 288, 0x3F7FF067, 0x3CB2B521⟩,
   ⟨1, 270, 0x3F7FEE41, 0x3CBE9E8A⟩, ⟨1, 256, 0x3F7FEC43, 0x3CC90AB0⟩, ⟨1, 243, 0x3F7FEA18, 0x3CD3CB73⟩,
   ⟨1, 240, 0x3F7FE98B, 0x3CD6710A⟩, ⟨7, 1620, 0x3F7FE7D9, 0x3CDE61C6⟩, ⟨1, 216, 0x3F7FE446, 0x3CEE4313⟩,
   ⟨2, 405, 0x3F7FE075, 0x3CFE2426⟩, ⟨5, 972, 0x3F7FDDC6, 0x3D045D08⟩, ⟨1, 192, 0x3F7FDCE9, 0x3D060472⟩,
   ⟨1, 180, 0x3F7FD814, 0x3D0EF2C6⟩, ⟨3, 512, 0x3F7FD397, 0x3D16C32C⟩, ⟨1, 162, 0x3F7FCEB7, 0x3D1ED2EC⟩,
   ⟨1, 160, 0x3F7FCD79, 0x3D20CEE7⟩, ⟨11, 1620, 0x3F7FC45E, 0x3D2EB276⟩, ⟨1, 144, 0x3F7FC1A0, 0x3D32AA3E⟩,
   ⟨7, 972, 0x3F7FBCEB, 0x3D39471E⟩, ⟨1, 135, 0x3F7FB908, 0x3D3E9153⟩]

/-- `TWOCT` (R276), items 32 to 63. -/
def twoct1 : List OctantEntry :=
  [⟨1, 128, 0x3F7FB10F, 0x3D48FB30⟩, ⟨13, 1620, 0x3F7FACB7, 0x3D4E6F75⟩, ⟨2, 243, 0x3F7FA863, 0x3D53B954⟩,
   ⟨1, 120, 0x3F7FA62F, 0x3D565E3A⟩, ⟨7, 810, 0x3F7F9F69, 0x3D5E4CCB⟩, ⟨1, 108, 0x3F7F9120, 0x3D6E2946⟩,
   ⟨3, 320, 0x3F7F8E56, 0x3D712283⟩, ⟨5, 512, 0x3F7F84AB, 0x3D7B2B74⟩, ⟨4, 405, 0x3F7F81DA, 0x3D7E04D6⟩,
   ⟨5, 486, 0x3F7F7720, 0x3D844B56⟩, ⟨1, 96, 0x3F7F73AF, 0x3D85F213⟩, ⟨17, 1620, 0x3F7F7199, 0x3D86EFB6⟩,
   ⟨1, 90, 0x3F7F605C, 0x3D8EDC7B⟩, ⟨11, 972, 0x3F7F5A65, 0x3D91809E⟩, ⟨5, 432, 0x3F7F52C8, 0x3D94CDB4⟩,
   ⟨3, 256, 0x3F7F4E6D, 0x3D96A905⟩, ⟨19, 1620, 0x3F7F4E23, 0x3D96C8B4⟩, ⟨1, 81, 0x3F7F3AEE, 0x3D9EB459⟩,
   ⟨1, 80, 0x3F7F35F9, 0x3DA0AF2A⟩, ⟨7, 540, 0x3F7F26BE, 0x3DA69F60⟩, ⟨5, 384, 0x3F7F24CC, 0x3DA75D61⟩,
   ⟨13, 972, 0x3F7F18BC, 0x3DABE660⟩, ⟨11, 810, 0x3F7F1192, 0x3DAE89C4⟩, ⟨7, 512, 0x3F7F0E58, 0x3DAFB680⟩,
   ⟨1, 72, 0x3F7F069E, 0x3DB27EB6⟩, ⟨23, 1620, 0x3F7EFB6B, 0x3DB6737C⟩, ⟨7, 486, 0x3F7EF3D0, 0x3DB91691⟩,
   ⟨7, 480, 0x3F7EED12, 0x3DBB6533⟩, ⟨2, 135, 0x3F7EE448, 0x3DBE5C7F⟩, ⟨5, 324, 0x3F7ECC2A, 0x3DC644C7⟩,
   ⟨1, 64, 0x3F7EC46D, 0x3DC8BD36⟩, ⟨13, 810, 0x3F7EB311, 0x3DCE2C4C⟩]

/-- `TWOCT` (R276), items 64 to 95. -/
def twoct2 : List OctantEntry :=
  [⟨7, 432, 0x3F7EACA3, 0x3DD0260D⟩, ⟨4, 243, 0x3F7EA1CA, 0x3DD370DE⟩, ⟨1, 60, 0x3F7E98FD, 0x3DD61305⟩,
   ⟨7, 405, 0x3F7E7DED, 0x3DDDF8EB⟩, ⟨5, 288, 0x3F7E7A7A, 0x3DDEF599⟩, ⟨17, 972, 0x3F7E74B1, 0x3DE09AB2⟩,
   ⟨9, 512, 0x3F7E70B0, 0x3DE1BC2E⟩, ⟨29, 1620, 0x3F7E61E3, 0x3DE5DDF6⟩, ⟨7, 384, 0x3F7E5298, 0x3DEA0F49⟩,
   ⟨1, 54, 0x3F7E44DE, 0x3DEDC21F⟩, ⟨3, 160, 0x3F7E39BC, 0x3DF0B772⟩, ⟨31, 1620, 0x3F7E26DF, 0x3DF5A55E⟩,
   ⟨7, 360, 0x3F7E1781, 0x3DF996A2⟩, ⟨5, 256, 0x3F7E1324, 0x3DFAB273⟩, ⟨19, 972, 0x3F7E1254, 0x3DFAE701⟩,
   ⟨8, 405, 0x3F7E07E5, 0x3DFD87AA⟩, ⟨11, 540, 0x3F7DE7F0, 0x3E02B47E⟩, ⟨5, 243, 0x3F7DDD12, 0x3E04049A⟩,
   ⟨1, 48, 0x3F7DCF55, 0x3E05A8A8⟩, ⟨17, 810, 0x3F7DC701, 0x3E06A4A6⟩, ⟨11, 512, 0x3F7DABCC, 0x3E09CF86⟩,
   ⟨7, 324, 0x3F7DA518, 0x3E0A944A⟩, ⟨7, 320, 0x3F7D95F4, 0x3E0C4CF7⟩, ⟨1, 45, 0x3F7D8235, 0x3E0E8365⟩,
   ⟨11, 486, 0x3F7D6A68, 0x3E11227E⟩, ⟨37, 1620, 0x3F7D5E58, 0x3E1271F3⟩, ⟨11, 480, 0x3F7D59CB, 0x3E12EFBB⟩,
   ⟨5, 216, 0x3F7D4C0C, 0x3E146904⟩, ⟨3, 128, 0x3F7D3AAC, 0x3E164083⟩, ⟨19, 810, 0x3F7D3981, 0x3E165FF1⟩,
   ⟨23, 972, 0x3F7D2D02, 0x3E17AF25⟩, ⟨13, 540, 0x3F7D13B1, 0x3E1A4D5B⟩]

/-- `TWOCT` (R276), items 96 to 127. -/
def twoct3 : List OctantEntry :=
  [⟨7, 288, 0x3F7D0543, 0x3E1BC63C⟩, ⟨2, 81, 0x3F7CECE7, 0x3E1E3A2D⟩, ⟨1, 40, 0x3F7CD925, 0x3E20305B⟩,
   ⟨41, 1620, 0x3F7CC524, 0x3E222662⟩, ⟨13, 512, 0x3F7CBFC9, 0x3E22ABB6⟩, ⟨11, 432, 0x3F7CBB0C, 0x3E232157⟩,
   ⟨25, 972, 0x3F7CAA17, 0x3E24C383⟩, ⟨7, 270, 0x3F7C9C67, 0x3E2611F8⟩, ⟨5, 192, 0x3F7C94A8, 0x3E26CE12⟩,
   ⟨43, 1620, 0x3F7C72B2, 0x3E29FCEA⟩, ⟨13, 486, 0x3F7C6493, 0x3E2B4B16⟩, ⟨13, 480, 0x3F7C4D67, 0x3E2D69F5⟩,
   ⟨11, 405, 0x3F7C4803, 0x3E2DE735⟩, ⟨7, 256, 0x3F7C3B28, 0x3E2F10A2⟩, ⟨1, 36, 0x3F7C1C5C, 0x3E31D0D4⟩,
   ⟨9, 320, 0x3F7C0361, 0x3E3403F1⟩, ⟨23, 810, 0x3F7BEFBD, 0x3E35B9C4⟩, ⟨11, 384, 0x3F7BDD55, 0x3E375032⟩,
   ⟨7, 243, 0x3F7BD173, 0x3E3854AB⟩, ⟨47, 1620, 0x3F7BC225, 0x3E39A200⟩, ⟨7, 240, 0x3F7BB698, 0x3E3A9BF3⟩,
   ⟨15, 512, 0x3F7BACCD, 0x3E3B6ECF⟩, ⟨4, 135, 0x3F7B9395, 0x3E3D8986⟩, ⟨29, 972, 0x3F7B83D8, 0x3E3ED689⟩,
   ⟨13, 432, 0x3F7B7006, 0x3E4076B0⟩, ⟨49, 1620, 0x3F7B640C, 0x3E417051⟩, ⟨11, 360, 0x3F7B4BEB, 0x3E43636F⟩,
   ⟨5, 162, 0x3F7B338C, 0x3E45565D⟩, ⟨1, 32, 0x3F7B14BE, 0x3E47C5C2⟩, ⟨17, 540, 0x3F7B0215, 0x3E493BA6⟩,
   ⟨31, 972, 0x3F7AE091, 0x3E4BD414⟩, ⟨13, 405, 0x3F7ACFA5, 0x3E4D202A⟩]

/-- `TWOCT` (R276), items 128 to 159. -/
def twoct4 : List OctantEntry :=
  [⟨7, 216, 0x3F7AB611, 0x3E4F1220⟩, ⟨53, 1620, 0x3F7A9C3F, 0x3E5103E3⟩, ⟨8, 243, 0x3F7A8AE6, 0x3E524F9D⟩,
   ⟨17, 512, 0x3F7A7302, 0x3E541501⟩, ⟨1, 30, 0x3F7A67E2, 0x3E54E6CD⟩, ⟨13, 384, 0x3F7A3AF3, 0x3E582DA0⟩,
   ⟨11, 324, 0x3F7A328D, 0x3E58C8E6⟩, ⟨11, 320, 0x3F7A0D54, 0x3E5B73DC⟩, ⟨14, 405, 0x3F79FC42, 0x3E5CAA2A⟩,
   ⟨5, 144, 0x3F79EE89, 0x3E5DA259⟩, ⟨17, 486, 0x3F79D787, 0x3E5F3FDE⟩, ⟨9, 256, 0x3F79C79D, 0x3E605C13⟩,
   ⟨19, 540, 0x3F79C501, 0x3E608A93⟩, ⟨17, 480, 0x3F79B009, 0x3E61FE82⟩, ⟨29, 810, 0x3F798CC9, 0x3E646A20⟩,
   ⟨35, 972, 0x3F7979D5, 0x3E65B472⟩, ⟨13, 360, 0x3F797051, 0x3E665992⟩, ⟨59, 1620, 0x3F79539B, 0x3E6848CB⟩,
   ⟨7, 192, 0x3F795000, 0x3E6886AE⟩, ⟨1, 27, 0x3F791978, 0x3E6C2691⟩, ⟨19, 512, 0x3F791298, 0x3E6C9A7F⟩,
   ⟨3, 80, 0x3F78ED3C, 0x3E6F0C4D⟩, ⟨61, 1620, 0x3F78DE5F, 0x3E70036E⟩, ⟨37, 972, 0x3F78B671, 0x3E72962A⟩,
   ⟨11, 288, 0x3F78A9E0, 0x3E7363EE⟩, ⟨31, 810, 0x3F78A251, 0x3E73DF5F⟩, ⟨7, 180, 0x3F78654D, 0x3E77BA60⟩,
   ⟨5, 128, 0x3F7853F8, 0x3E78CFCC⟩, ⟨19, 486, 0x3F7850C0, 0x3E79032A⟩, ⟨17, 432, 0x3F7836EA, 0x3E7A9E00⟩,
   ⟨16, 405, 0x3F782755, 0x3E7B946C⟩, ⟨19, 480, 0x3F781F84, 0x3E7C0F9C⟩]

/-- `TWOCT` (R276), items 160 to 191. -/
def twoct5 : List OctantEntry :=
  [⟨13, 324, 0x3F77E868, 0x3E7F6D80⟩, ⟨13, 320, 0x3F77B493, 0x3E814693⟩, ⟨11, 270, 0x3F77A886, 0x3E81A2CC⟩,
   ⟨21, 512, 0x3F778BC5, 0x3E827DC0⟩, ⟨10, 243, 0x3F777D68, 0x3E82EA8D⟩, ⟨67, 1620, 0x3F7767B1, 0x3E838E58⟩,
   ⟨1, 24, 0x3F7746EA, 0x3E8483EE⟩, ⟨17, 405, 0x3F7725E7, 0x3E857963⟩, ⟨41, 972, 0x3F770FC3, 0x3E861CF4⟩,
   ⟨23, 540, 0x3F76E32A, 0x3E8763EA⟩, ⟨11, 256, 0x3F76BA07, 0x3E888E93⟩, ⟨7, 162, 0x3F769F79, 0x3E894DEC⟩,
   ⟨7, 160, 0x3F766377, 0x3E8AFA3E⟩, ⟨71, 1620, 0x3F765AD6, 0x3E8B3766⟩, ⟨19, 432, 0x3F764987, 0x3E8BB1AF⟩,
   ⟨43, 972, 0x3F762C8C, 0x3E8C7D6B⟩, ⟨17, 384, 0x3F7628EA, 0x3E8C96E1⟩, ⟨2, 45, 0x3F76153F, 0x3E8D2057⟩,
   ⟨23, 512, 0x3F75DEC6, 0x3E8E9A22⟩, ⟨73, 1620, 0x3F75CEB6, 0x3E8F08BD⟩, ⟨13, 288, 0x3F75C5D4, 0x3E8F45C0⟩,
   ⟨11, 243, 0x3F75B6FD, 0x3E8FAB6A⟩, ⟨37, 810, 0x3F75873A, 0x3E90F096⟩, ⟨11, 240, 0x3F757536, 0x3E916A76⟩,
   ⟨5, 108, 0x3F753ECD, 0x3E92D7E0⟩, ⟨3, 64, 0x3F74FA0B, 0x3E94A031⟩, ⟨19, 405, 0x3F74F56E, 0x3E94BE99⟩,
   ⟨17, 360, 0x3F74D063, 0x3E95B1BE⟩, ⟨23, 486, 0x3F74C3FD, 0x3E9602C3⟩, ⟨77, 1620, 0x3F74AB1D, 0x3E96A4BF⟩,
   ⟨23, 480, 0x3F747C30, 0x3E97D44C⟩, ⟨13, 270, 0x3F745FDB, 0x3E988A51⟩]

/-- `TWOCT` (R276), items 192 to 223. -/
def twoct6 : List OctantEntry :=
  [⟨47, 972, 0x3F74468F, 0x3E992C0B⟩, ⟨7, 144, 0x3F7426CB, 0x3E99F61C⟩, ⟨79, 1620, 0x3F7413A8, 0x3E9A6F4D⟩,
   ⟨25, 512, 0x3F740BDD, 0x3E9AA086⟩, ⟨4, 81, 0x3F73C684, 0x3E9C53B0⟩, ⟨19, 384, 0x3F73BA61, 0x3E9C9F52⟩,
   ⟨1, 20, 0x3F737871, 0x3E9E377A⟩, ⟨49, 972, 0x3F7343DE, 0x3E9F79A9⟩, ⟨41, 810, 0x3F73296D, 0x3EA01AA7⟩,
   ⟨13, 256, 0x3F731447, 0x3EA09AE5⟩, ⟨11, 216, 0x3F730191, 0x3EA10C03⟩, ⟨83, 1620, 0x3F72D979, 0x3EA1FD37⟩,
   ⟨25, 486, 0x3F72BE9D, 0x3EA29DEE⟩, ⟨7, 135, 0x3F728896, 0x3EA3DF26⟩, ⟨5, 96, 0x3F726A03, 0x3EA493B7⟩,
   ⟨17, 324, 0x3F7236C4, 0x3EA5C075⟩, ⟨27, 512, 0x3F721352, 0x3EA68F12⟩, ⟨19, 360, 0x3F720D81, 0x3EA6B0DF⟩,
   ⟨43, 810, 0x3F71E403, 0x3EA7A11F⟩, ⟨17, 320, 0x3F71DECF, 0x3EA7BF25⟩, ⟨23, 432, 0x3F71CF2E, 0x3EA81930⟩,
   ⟨13, 243, 0x3F71AC53, 0x3EA8E136⟩, ⟨29, 540, 0x3F719054, 0x3EA98125⟩, ⟨13, 240, 0x3F7150F4, 0x3EAAE8BC⟩,
   ⟨22, 405, 0x3F713BB6, 0x3EAB6083⟩, ⟨53, 972, 0x3F711F4D, 0x3EAC0028⟩, ⟨7, 128, 0x3F710908, 0x3EAC7CD4⟩,
   ⟨89, 1620, 0x3F70E62B, 0x3EAD3F39⟩, ⟨1, 18, 0x3F708FB2, 0x3EAF1D44⟩, ⟨91, 1620, 0x3F70384C, 0x3EB0FAA2⟩,
   ⟨9, 160, 0x3F702D4F, 0x3EB13641⟩, ⟨55, 972, 0x3F6FFD85, 0x3EB23880⟩]

/-- `TWOCT` (R276), items 224 to 255. -/
def twoct7 : List OctantEntry :=
  [⟨29, 512, 0x3F6FF573, 0x3EB263EF⟩, ⟨23, 405, 0x3F6FDFF9, 0x3EB2D751⟩, ⟨11, 192, 0x3F6F9788, 0x3EB45A1E⟩,
   ⟨31, 540, 0x3F6F86BA, 0x3EB4B351⟩, ⟨14, 243, 0x3F6F68C6, 0x3EB551D4⟩, ⟨25, 432, 0x3F6F4330, 0x3EB617DB⟩,
   ⟨47, 810, 0x3F6F2C8F, 0x3EB68E9E⟩, ⟨7, 120, 0x3F6EFF20, 0x3EB77C01⟩, ⟨15, 256, 0x3F6ED89E, 0x3EB8442A⟩,
   ⟨19, 324, 0x3F6ED177, 0x3EB86937⟩, ⟨17, 288, 0x3F6E9811, 0x3EB9917B⟩, ⟨8, 135, 0x3F6E7575, 0x3EBA431A⟩,
   ⟨19, 320, 0x3F6E641A, 0x3EBA9BE1⟩, ⟨29, 486, 0x3F6E379B, 0x3EBB7EA1⟩, ⟨97, 1620, 0x3F6E1887, 0x3EBC1C46⟩,
   ⟨23, 384, 0x3F6E159C, 0x3EBC2B0D⟩, ⟨13, 216, 0x3F6DE9B8, 0x3EBD0897⟩, ⟨29, 480, 0x3F6DC676, 0x3EBDB9B4⟩,
   ⟨49, 810, 0x3F6DBAAF, 0x3EBDF4B8⟩, ⟨31, 512, 0x3F6DB293, 0x3EBE1D4A⟩, ⟨59, 972, 0x3F6D9B32, 0x3EBE920A⟩,
   ⟨11, 180, 0x3F6D5BEC, 0x3EBFCC6F⟩, ⟨5, 81, 0x3F6CFC3F, 0x3EC1A369⟩, ⟨101, 1620, 0x3F6C9BA9, 0x3EC379A4⟩,
   ⟨1, 16, 0x3F6C835E, 0x3EC3EF15⟩, ⟨61, 972, 0x3F6C5AC3, 0x3EC4B2B6⟩, ⟨17, 270, 0x3F6C3A29, 0x3EC54F1F⟩,
   ⟨103, 1620, 0x3F6BD7C0, 0x3EC723D7⟩, ⟨31, 486, 0x3F6BB6BF, 0x3EC7BFE8⟩, ⟨23, 360, 0x3F6BA635, 0x3EC80DE9⟩,
   ⟨26, 405, 0x3F6B746F, 0x3EC8F7CA⟩, ⟨33, 512, 0x3F6B4B0C, 0x3EC9B953⟩]

/-- `TWOCT` (R276), items 256 to 287. -/
def twoct8 : List OctantEntry :=
  [⟨31, 480, 0x3F6B35E7, 0x3ECA1BDE⟩, ⟨7, 108, 0x3F6B1036, 0x3ECACAF8⟩, ⟨25, 384, 0x3F6AE0EB, 0x3ECBA5B0⟩,
   ⟨53, 810, 0x3F6AAB15, 0x3ECC9D5D⟩, ⟨21, 320, 0x3F6A8B4B, 0x3ECD2EF3⟩, ⟨16, 243, 0x3F6A6729, 0x3ECDD3DB⟩,
   ⟨19, 288, 0x3F6A51DA, 0x3ECE34D0⟩, ⟨107, 1620, 0x3F6A450D, 0x3ECE6EF9⟩, ⟨17, 256, 0x3F6A09A7, 0x3ECF7BCA⟩,
   ⟨1, 15, 0x3F69DE1D, 0x3ED03FC9⟩, ⟨65, 972, 0x3F69BB9A, 0x3ED0DA8C⟩, ⟨29, 432, 0x3F699053, 0x3ED19BDF⟩,
   ⟨109, 1620, 0x3F697648, 0x3ED20FCC⟩, ⟨13, 192, 0x3F692E5F, 0x3ED34E56⟩, ⟨11, 162, 0x3F690D8C, 0x3ED3DF00⟩,
   ⟨35, 512, 0x3F68BF3C, 0x3ED53641⟩, ⟨37, 540, 0x3F68A3EA, 0x3ED5AD63⟩, ⟨11, 160, 0x3F687C12, 0x3ED65A92⟩,
   ⟨67, 972, 0x3F685CFF, 0x3ED6E130⟩, ⟨28, 405, 0x3F683963, 0x3ED77AF3⟩, ⟨5, 72, 0x3F6803CA, 0x3ED8616C⟩,
   ⟨113, 1620, 0x3F67CDF7, 0x3ED947AF⟩, ⟨17, 243, 0x3F67A9F5, 0x3ED9E113⟩, ⟨9, 128, 0x3F676BD8, 0x3EDAE880⟩,
   ⟨19, 270, 0x3F6761A6, 0x3EDB1395⟩, ⟨17, 240, 0x3F670FD4, 0x3EDC6BF3⟩, ⟨23, 324, 0x3F66F472, 0x3EDCDEA2⟩,
   ⟨29, 405, 0x3F668659, 0x3EDEA8D6⟩, ⟨31, 432, 0x3F666AB0, 0x3EDF1B41⟩, ⟨23, 320, 0x3F6655E7, 0x3EDF7108⟩,
   ⟨35, 486, 0x3F663C76, 0x3EDFD9D5⟩, ⟨13, 180, 0x3F66175E, 0x3EE0722F⟩]

/-- `TWOCT` (R276), items 288 to 319. -/
def twoct9 : List OctantEntry :=
  [⟨37, 512, 0x3F660F88, 0x3EE0924F⟩, ⟨59, 810, 0x3F65A77F, 0x3EE23AAA⟩, ⟨7, 96, 0x3F659974, 0x3EE273AA⟩,
   ⟨71, 972, 0x3F658203, 0x3EE2D2A2⟩, ⟨119, 1620, 0x3F6536BF, 0x3EE40246⟩, ⟨2, 27, 0x3F64C51C, 0x3EE5C902⟩,
   ⟨19, 256, 0x3F64AA59, 0x3EE63375⟩, ⟨121, 1620, 0x3F645298, 0x3EE78EDA⟩, ⟨3, 40, 0x3F641901, 0x3EE87171⟩,
   ⟨73, 972, 0x3F6405C2, 0x3EE8BCEC⟩, ⟨61, 810, 0x3F63DF32, 0x3EE953CF⟩, ⟨29, 384, 0x3F63B753, 0x3EE9EF4E⟩,
   ⟨41, 540, 0x3F636AEC, 0x3EEB17DE⟩, ⟨37, 486, 0x3F6343F8, 0x3EEBAE5A⟩, ⟨39, 512, 0x3F633C5A, 0x3EEBCBBB⟩,
   ⟨11, 144, 0x3F631324, 0x3EEC6A50⟩, ⟨31, 405, 0x3F62F5C6, 0x3EECDB04⟩, ⟨37, 480, 0x3F628E8D, 0x3EEE6507⟩,
   ⟨25, 324, 0x3F627FC0, 0x3EEE9D42⟩, ⟨7, 90, 0x3F6208DA, 0x3EF05E94⟩, ⟨5, 64, 0x3F61C598, 0x3EF15AEA⟩,
   ⟨19, 243, 0x3F61B91B, 0x3EF1899C⟩, ⟨127, 1620, 0x3F619116, 0x3EF21EF9⟩, ⟨17, 216, 0x3F6154E1, 0x3EF2FED2⟩,
   ⟨32, 405, 0x3F611874, 0x3EF3DE6F⟩, ⟨19, 240, 0x3F60FA29, 0x3EF44E27⟩, ⟨77, 972, 0x3F60F00C, 0x3EF47361⟩,
   ⟨43, 540, 0x3F609EF3, 0x3EF59CF5⟩, ⟨23, 288, 0x3F60712A, 0x3EF64429⟩, ⟨41, 512, 0x3F604621, 0x3EF6E0CB⟩,
   ⟨13, 162, 0x3F602496, 0x3EF75A89⟩, ⟨29, 360, 0x3F5FE714, 0x3EF838F7⟩]

/-- `TWOCT` (R276), items 320 to 351. -/
def twoct10 : List OctantEntry :=
  [⟨31, 384, 0x3F5FC462, 0x3EF8B5FB⟩, ⟨131, 1620, 0x3F5FA95B, 0x3EF91729⟩, ⟨35, 432, 0x3F5F8A6A, 0x3EF9862B⟩,
   ⟨13, 160, 0x3F5F5BE6, 0x3EFA2C90⟩, ⟨79, 972, 0x3F5F56B9, 0x3EFA3F0B⟩, ⟨11, 135, 0x3F5F2D43, 0x3EFAD2D3⟩,
   ⟨21, 256, 0x3F5EBE05, 0x3EFC5D27⟩, ⟨133, 1620, 0x3F5EB050, 0x3EFC8D86⟩, ⟨20, 243, 0x3F5E8679, 0x3EFD20E0⟩,
   ⟨67, 810, 0x3F5E3281, 0x3EFE4741⟩, ⟨1, 12, 0x3F5DB3D7, 0x3F000000⟩, ⟨34, 405, 0x3F5D3453, 0x3F00DBE2⟩,
   ⟨43, 512, 0x3F5D2D53, 0x3F00E7E4⟩, ⟨41, 486, 0x3F5CDED7, 0x3F016E31⟩, ⟨27, 320, 0x3F5CDC29, 0x3F0172C3⟩,
   ⟨137, 1620, 0x3F5CB3F4, 0x3F01B744⟩, ⟨23, 270, 0x3F5C32BC, 0x3F029227⟩, ⟨83, 972, 0x3F5C0779, 0x3F02DB00⟩,
   ⟨41, 480, 0x3F5C020F, 0x3F02E41B⟩, ⟨37, 432, 0x3F5BD143, 0x3F0335FC⟩, ⟨139, 1620, 0x3F5BB0AB, 0x3F036C89⟩,
   ⟨11, 128, 0x3F5B941A, 0x3F039C3D⟩, ⟨31, 360, 0x3F5B6F51, 0x3F03D989⟩, ⟨7, 81, 0x3F5B2DC1, 0x3F044669⟩,
   ⟨25, 288, 0x3F5ADB81, 0x3F04CE53⟩, ⟨47, 540, 0x3F5AA9FF, 0x3F051FC7⟩, ⟨85, 972, 0x3F5A51B1, 0x3F05B067⟩,
   ⟨7, 80, 0x3F5A46A0, 0x3F05C277⟩, ⟨71, 810, 0x3F5A2566, 0x3F05F8A2⟩, ⟨45, 512, 0x3F59F26A, 0x3F064B82⟩,
   ⟨19, 216, 0x3F59E2C8, 0x3F0664DD⟩, ⟨143, 1620, 0x3F599FF5, 0x3F06D0F8⟩]

/-- `TWOCT` (R276), items 352 to 383. -/
def twoct11 : List OctantEntry :=
  [⟨43, 486, 0x3F59734B, 0x3F0718F8⟩, ⟨17, 192, 0x3F596550, 0x3F072F74⟩, ⟨4, 45, 0x3F5919AE, 0x3F07A8CA⟩,
   ⟨29, 324, 0x3F589291, 0x3F088016⟩, ⟨43, 480, 0x3F58819E, 0x3F089AF6⟩, ⟨23, 256, 0x3F584853, 0x3F08F59B⟩,
   ⟨73, 810, 0x3F580A9E, 0x3F0956DB⟩, ⟨13, 144, 0x3F57E880, 0x3F098C78⟩, ⟨22, 243, 0x3F57AF86, 0x3F09E5BE⟩,
   ⟨29, 320, 0x3F579B8C, 0x3F0A04F8⟩, ⟨49, 540, 0x3F5781D7, 0x3F0A2D19⟩, ⟨35, 384, 0x3F5727A0, 0x3F0AB968⟩,
   ⟨37, 405, 0x3F56F83B, 0x3F0B02CF⟩, ⟨89, 972, 0x3F56CA2D, 0x3F0B49ED⟩, ⟨11, 120, 0x3F56B31D, 0x3F0B6D77⟩,
   ⟨47, 512, 0x3F5695E5, 0x3F0B9A6B⟩, ⟨149, 1620, 0x3F566DCB, 0x3F0BD7FC⟩, ⟨5, 54, 0x3F55E287, 0x3F0CAC9F⟩,
   ⟨151, 1620, 0x3F555671, 0x3F0D80B7⟩, ⟨91, 972, 0x3F54F898, 0x3F0E0DCF⟩, ⟨3, 32, 0x3F54DB31, 0x3F0E39DA⟩,
   ⟨38, 405, 0x3F54C989, 0x3F0E5444⟩, ⟨17, 180, 0x3F543BCE, 0x3F0F2744⟩, ⟨23, 243, 0x3F540C62, 0x3F0F6D7A⟩,
   ⟨41, 432, 0x3F53D0F9, 0x3F0FC528⟩, ⟨77, 810, 0x3F53AD43, 0x3F0FF9B7⟩, ⟨31, 324, 0x3F531DE7, 0x3F10CB9D⟩,
   ⟨49, 512, 0x3F531849, 0x3F10D3CD⟩, ⟨23, 240, 0x3F52F9EF, 0x3F110000⟩, ⟨13, 135, 0x3F528DBA, 0x3F119CF3⟩,
   ⟨37, 384, 0x3F52802C, 0x3F11B08C⟩, ⟨47, 486, 0x3F522D29, 0x3F122833⟩]

/-- `TWOCT` (R276), items 384 to 415. -/
def twoct12 : List OctantEntry :=
  [⟨31, 320, 0x3F5205D4, 0x3F1260B2⟩, ⟨157, 1620, 0x3F51FCBE, 0x3F126DBA⟩, ⟨7, 72, 0x3F51B3F3, 0x3F12D5E8⟩,
   ⟨79, 810, 0x3F516AF3, 0x3F133DF1⟩, ⟨25, 256, 0x3F514D3D, 0x3F13682A⟩, ⟨95, 972, 0x3F513A2D, 0x3F138338⟩,
   ⟨47, 480, 0x3F510F6C, 0x3F13BFCA⟩, ⟨53, 540, 0x3F50D85A, 0x3F140D97⟩, ⟨8, 81, 0x3F5044F3, 0x3F14DCAA⟩,
   ⟨19, 192, 0x3F5016B8, 0x3F151D42⟩, ⟨161, 1620, 0x3F4FB0BE, 0x3F15AB2B⟩, ⟨43, 432, 0x3F4F8B91, 0x3F15DEB4⟩,
   ⟨51, 512, 0x3F4F7A1F, 0x3F15F6D9⟩, ⟨97, 972, 0x3F4F4D7F, 0x3F163484⟩, ⟨1, 10, 0x3F4F1BBD, 0x3F167918⟩,
   ⟨163, 1620, 0x3F4E85EF, 0x3F174671⟩, ⟨29, 288, 0x3F4E7327, 0x3F176012⟩, ⟨49, 486, 0x3F4E53D3, 0x3F178AC3⟩,
   ⟨41, 405, 0x3F4DEF56, 0x3F181335⟩, ⟨13, 128, 0x3F4D9F02, 0x3F187FC0⟩, ⟨11, 108, 0x3F4D57F2, 0x3F18DF63⟩,
   ⟨49, 480, 0x3F4D1EF8, 0x3F192BCD⟩, ⟨83, 810, 0x3F4CBFC3, 0x3F19AAFA⟩, ⟨37, 360, 0x3F4C7360, 0x3F1A108D⟩,
   ⟨25, 243, 0x3F4C59DF, 0x3F1A3260⟩, ⟨167, 1620, 0x3F4C26CB, 0x3F1A75F9⟩, ⟨33, 320, 0x3F4C1D35, 0x3F1A82A4⟩,
   ⟨53, 512, 0x3F4BBBF8, 0x3F1B02C6⟩, ⟨14, 135, 0x3F4B8D09, 0x3F1B4061⟩, ⟨101, 972, 0x3F4B599C, 0x3F1B83B7⟩,
   ⟨5, 48, 0x3F4B1934, 0x3F1BD7CA⟩, ⟨169, 1620, 0x3F4AF27F, 0x3F1C0A2F⟩]

/-- `TWOCT` (R276), items 416 to 447. -/
def twoct13 : List OctantEntry :=
  [⟨17, 162, 0x3F4A572D, 0x3F1CD364⟩, ⟨27, 256, 0x3F49D112, 0x3F1D7FD1⟩, ⟨19, 180, 0x3F49BB13, 0x3F1D9BFE⟩,
   ⟨103, 972, 0x3F495293, 0x3F1E2163⟩, ⟨43, 405, 0x3F491E32, 0x3F1E63FC⟩, ⟨17, 160, 0x3F490A88, 0x3F1E7CF1⟩,
   ⟨23, 216, 0x3F48CF77, 0x3F1EC7C1⟩, ⟨41, 384, 0x3F48857B, 0x3F1F2526⟩, ⟨173, 1620, 0x3F48808B, 0x3F1F2B5E⟩,
   ⟨26, 243, 0x3F484BD2, 0x3F1F6DB2⟩, ⟨29, 270, 0x3F47E21E, 0x3F1FF224⟩, ⟨55, 512, 0x3F47DE65, 0x3F1FF6CB⟩,
   ⟨31, 288, 0x3F47A682, 0x3F203C85⟩, ⟨35, 324, 0x3F4742EC, 0x3F20B84C⟩, ⟨13, 120, 0x3F46F30A, 0x3F211B24⟩,
   ⟨44, 405, 0x3F46A2F6, 0x3F217DD5⟩, ⟨47, 432, 0x3F467ADA, 0x3F21AF1E⟩, ⟨53, 486, 0x3F4637E5, 0x3F22012D⟩,
   ⟨59, 540, 0x3F46023C, 0x3F2242BF⟩, ⟨7, 64, 0x3F45E403, 0x3F226799⟩, ⟨89, 810, 0x3F4560BF, 0x3F230709⟩,
   ⟨107, 972, 0x3F452ABF, 0x3F234854⟩, ⟨53, 480, 0x3F44D2D1, 0x3F23B246⟩, ⟨179, 1620, 0x3F44BE7F, 0x3F23CAB3⟩,
   ⟨1, 9, 0x3F441B7D, 0x3F248DBB⟩, ⟨57, 512, 0x3F43E200, 0x3F24D225⟩, ⟨181, 1620, 0x3F4377BA, 0x3F255020⟩,
   ⟨43, 384, 0x3F4334FC, 0x3F259EEB⟩, ⟨109, 972, 0x3F430A22, 0x3F25D15F⟩, ⟨91, 810, 0x3F42D336, 0x3F2611E3⟩,
   ⟨9, 80, 0x3F42A9F7, 0x3F26423A⟩, ⟨61, 540, 0x3F422DF2, 0x3F26D302⟩]

/-- `TWOCT` (R276), items 448 to 479. -/
def twoct14 : List OctantEntry :=
  [⟨55, 486, 0x3F41F6B1, 0x3F27133D⟩, ⟨29, 256, 0x3F41D870, 0x3F273656⟩, ⟨49, 432, 0x3F41B182, 0x3F27636D⟩,
   ⟨46, 405, 0x3F4187EF, 0x3F27937D⟩, ⟨41, 360, 0x3F4134A6, 0x3F27F37C⟩, ⟨37, 324, 0x3F40E12D, 0x3F285352⟩,
   ⟨11, 96, 0x3F407893, 0x3F28CAE3⟩, ⟨31, 270, 0x3F4039AD, 0x3F291281⟩, ⟨28, 243, 0x3F3FC998, 0x3F29919A⟩,
   ⟨59, 512, 0x3F3FC767, 0x3F299415⟩, ⟨187, 1620, 0x3F3F916F, 0x3F29D10A⟩, ⟨37, 320, 0x3F3F5CB5, 0x3F2A0C73⟩,
   ⟨25, 216, 0x3F3F3D09, 0x3F2A3010⟩, ⟨47, 405, 0x3F3EE874, 0x3F2A8EEC⟩, ⟨113, 972, 0x3F3EAFF7, 0x3F2ACE11⟩,
   ⟨7, 60, 0x3F3E3EBD, 0x3F2B4C25⟩, ⟨15, 128, 0x3F3DAEF9, 0x3F2BEB4A⟩, ⟨19, 162, 0x3F3D944B, 0x3F2C08B5⟩,
   ⟨191, 1620, 0x3F3CE91E, 0x3F2CC49C⟩, ⟨17, 144, 0x3F3CBE35, 0x3F2CF37B⟩, ⟨115, 972, 0x3F3C7698, 0x3F2D4182⟩,
   ⟨16, 135, 0x3F3C3D36, 0x3F2D7FD8⟩, ⟨19, 160, 0x3F3BFC8F, 0x3F2DC5E3⟩, ⟨193, 1620, 0x3F3B9095, 0x3F2E3A69⟩,
   ⟨61, 512, 0x3F3B8F3B, 0x3F2E3BDE⟩, ⟨29, 243, 0x3F3B56E1, 0x3F2E7874⟩, ⟨43, 360, 0x3F3B39FF, 0x3F2E9772⟩,
   ⟨97, 810, 0x3F3AE33B, 0x3F2EF44F⟩, ⟨23, 192, 0x3F3AD85F, 0x3F2EFFE8⟩, ⟨13, 108, 0x3F3A3529, 0x3F2FAD88⟩,
   ⟨29, 240, 0x3F39B223, 0x3F303801⟩, ⟨49, 405, 0x3F39865F, 0x3F306614⟩]

/-- `TWOCT` (R276), items 480 to 496. -/
def twoct15 : List OctantEntry :=
  [⟨31, 256, 0x3F396842, 0x3F3085BB⟩, ⟨59, 486, 0x3F391173, 0x3F30E0BB⟩, ⟨35, 288, 0x3F38ECD8, 0x3F310700⟩,
   ⟨197, 1620, 0x3F38D6DE, 0x3F311DF2⟩, ⟨39, 320, 0x3F3889DC, 0x3F316E2C⟩, ⟨11, 90, 0x3F3826A7, 0x3F31D522⟩,
   ⟨47, 384, 0x3F37F4F7, 0x3F320887⟩, ⟨119, 972, 0x3F37EBC2, 0x3F32120A⟩, ⟨53, 432, 0x3F37A207, 0x3F325E12⟩,
   ⟨199, 1620, 0x3F3775BB, 0x3F328BA2⟩, ⟨59, 480, 0x3F375F90, 0x3F32A265⟩, ⟨63, 512, 0x3F373A23, 0x3F32C8C9⟩,
   ⟨10, 81, 0x3F36C419, 0x3F334172⟩, ⟨67, 540, 0x3F3611C4, 0x3F33F691⟩, ⟨121, 972, 0x3F359A7C, 0x3F346EEE⟩,
   ⟨101, 810, 0x3F355EBB, 0x3F34AAFF⟩, ⟨1, 8, 0x3F3504F3, 0x3F3504F3⟩]

/-- The whole list of R276. -/
def twoct : List OctantEntry :=
  twoct0 ++ twoct1 ++ twoct2 ++ twoct3 ++ twoct4 ++ twoct5 ++ twoct6 ++ twoct7 ++ twoct8 ++ twoct9 ++ twoct10 ++ twoct11 ++ twoct12 ++ twoct13 ++ twoct14 ++ twoct15

end Sys2Proof.Machine
end

