-- ==== Sys2Proof/Machine/State.lean ====
section
/-! DEFINITION. The state of the CORE (R21, `10_state.md`): host registers, status flags, instances, scratch arrays, data
memory, and the inputs that the host and the reset line still have to make. -/

namespace Sys2Proof.Machine

/-- The stops of the model that the pipeline asks to be faults. The nine fault codes of the CORE (R301) are no stop: taking
one is a next state, `State.raise`. -/
inductive Fault where
  /-- A host access to the memory aperture at a word address `>= DMEM_WORDS`, raised by `performMemory`. R62: "a model refuses
  such a host step". Safe: the model has no next state where the spec defines none. -/
  | hostOutsideDmem (wordAddress : Nat)
  deriving DecidableEq, Repr

/-- Why the model does not take a step. -/
inductive Refusal where
  /-- Raised by `exec` for a command without a meaning. No command is: every arm of `exec` calls one. Safe. -/
  | notModelled (mnemonic : String)
  /-- A host access that is not a 32-bit access at a multiple of 4, raised by `performAccess`. R64, R66: "a model refuses the
  step". Safe: the model has no next state where the spec defines none. -/
  | hostAccessUnsupported (byteOffset size : Nat)
  deriving DecidableEq, Repr

/-- The data memory (R49, R60) as the host sees its bytes (R63): word `a` is the bytes at `4*a .. 4*a+3`. A list of cells with
strictly rising addresses, none equal to what an unlisted address reads as. -/
abbrev Memory := List Host.Cell

/-- What a byte that no cell lists reads as. DESIGN CHOICE, log entry 1: the contents after power-on are the argument
`DMEM_INIT` (R61), which is the memory handed to `State.powerOn`; this byte only fixes how a memory is written down. -/
def Memory.unlisted : Byte := 0

/-- The canonical form: addresses strictly rising, no cell holding the unlisted byte. -/
def Memory.wf : Memory → Bool
  | [] => true
  | [c] => c.2 != Memory.unlisted
  | c :: d :: rest => c.2 != Memory.unlisted && decide (c.1 < d.1) && Memory.wf (d :: rest)

/-- A CFFT context `cfft[c]` (R40). -/
structure Context where
  /-- Transform size. -/
  N : Nat
  /-- Number of factors. -/
  nf : Nat
  /-- Ordered factors. -/
  fac : List Radix
  /-- Twiddle table, entries `0 .. N-2` (R42). -/
  tw : List Cplx
  /-- Work buffer, scratch (R43). -/
  work : List Cplx
  deriving DecidableEq, Repr

/-- A context's fields after reset. The spec leaves them unspecified and unreadable (R59, R340). DESIGN CHOICE, log entry 4. -/
def Context.unbuilt : Context := { N := 0, nf := 0, fac := [], tw := [], work := [] }

/-- The two apertures of the host (R49). -/
inductive Aperture where
  | registers
  | memory
  deriving DecidableEq, Repr

/-- One access of the host: a byte offset in an aperture (R63) and a width in bytes. Only width 4 at a multiple of 4 is an
access the CORE performs (R64, R66). -/
inductive HostAccess where
  | read (ap : Aperture) (byteOffset size : Nat)
  | write (ap : Aperture) (byteOffset size : Nat) (value : Word)
  deriving DecidableEq, Repr

/-- The one access that a run does not hold: a read of `STATUS` (R33, R39). -/
def HostAccess.statusPoll : HostAccess := .read .registers 8 4

/-- What a completed read of the host returned (R39, R62): the aperture and byte offset it read, and the value. Reads need not complete in
the order in which the host made them (R39), so each value carries its place. -/
structure HostReply where
  ap : Aperture
  byteOffset : Nat
  value : Word
  deriving DecidableEq, Repr

/-- The state of the machine (R21) and of its inputs. Each field's rule and reset value stand in INVENTORY.md. -/
structure State where
  /-- `DMEM_WORDS` (R12): no step changes it. -/
  params : Params
  /-- `DMEM` (R49, R60). -/
  mem : Memory
  /-- `CP`, the command pointer (R23). -/
  cp : Word
  /-- `STATUS.BUSY` (R27). -/
  busy : Bool
  /-- `STATUS.DONE` (R27). -/
  done : Bool
  /-- `STATUS.FAULT` (R27). -/
  fault : Bool
  /-- `STATUS.FB_V` (R27). -/
  fbV : Bool
  /-- `STATUS.CU_V` (R27). -/
  cuV : Bool
  /-- `FCODE` bits 3:0 (R35). -/
  fcode : BitVec 4
  /-- `FCP` (R36). -/
  fcp : Word
  /-- `FINFO` (R37). -/
  finfo : Word
  /-- `cfft[0]` (R40). -/
  cfft0 : Context
  /-- `cfft[1]` (R40). -/
  cfft1 : Context
  /-- `cfft[2]` (R40). -/
  cfft2 : Context
  /-- `mdct[0].Z`, scratch (R44). -/
  z0 : List Cplx
  /-- `mdct[1].Z`, scratch (R44). -/
  z1 : List Cplx
  /-- `fb.transf`, scratch (R45). -/
  transf : List F32
  /-- `fb.windowed`, scratch (R45). -/
  windowed : List F32
  /-- The reset input's level at each coming step, the next first; the empty list is a line that stays low (R340(b), R341; log entry 10). -/
  resetIn : List Bool
    /-- The accesses that the host makes at each coming step, the next step's first; the empty list is a host that makes none (log entry 9). -/
  hostIn : List (List HostAccess)
  /-- The accesses that the host has made and that have not completed, the oldest first: while `BUSY = 1` the held ones (R39). -/
  hostQueue : List HostAccess
  /-- What the host's completed reads returned, the newest first (R39, R62). -/
  hostReads : List HostReply
  /-- How many free values have been drawn (R341). The model's own field. -/
  freeCount : Nat
  deriving DecidableEq, Repr

/-- The state after power-on with the parameters `p` and the memory contents `DMEM_INIT` (R61, R340). -/
def State.powerOn (p : Params) (dmemInit : Memory) : State :=
  { params := p, mem := dmemInit, cp := 0
    busy := false, done := false, fault := false, fbV := false, cuV := false
    fcode := 0, fcp := 0, finfo := 0
    cfft0 := Context.unbuilt, cfft1 := Context.unbuilt, cfft2 := Context.unbuilt
    z0 := [], z1 := [], transf := [], windowed := []
    resetIn := [], hostIn := [], hostQueue := [], hostReads := [], freeCount := 0 }

/-- The machine right after reset (R59, R340), with the default size and nothing listed in memory (log entries 1, 2). -/
def State.reset : State := State.powerOn Params.default []

end Sys2Proof.Machine
end

