-- ==== Sys2Proof/Machine/Construction.lean ====
section
/-! DEFINITION. What construction computes: factor lists (R141), which sizes are accepted (R146; `41_cfft_construction.md`),
twiddle values (R270, R271; `50_rom_tables.md`) and twiddle tables (R148). -/

namespace Sys2Proof.Machine

/-- The candidates of R141, in the order they are tried. -/
def candidates : List Radix := [.r3, .r4, .r2, .r5]

/-- Append a factor found; a 2 that is not the first factor goes to the front (R141). -/
def appendFactor (fac : List Radix) (r : Radix) : List Radix :=
  if r = .r2 ∧ fac ≠ [] then .r2 :: fac else fac ++ [r]

/-- The `while` of R141 for one candidate: divide it out as often as it divides. The first argument bounds the rounds; `N` rounds
are enough for every `N >= 1`. -/
def divideOut : Nat → Radix → Nat → List Radix → Nat × List Radix
  | 0, _, nl, fac => (nl, fac)
  | fuel + 1, r, nl, fac =>
    if nl % r.toNat = 0 then divideOut fuel r (nl / r.toNat) (appendFactor fac r) else (nl, fac)

/-- The loop of R141 over the candidates, from `N` and the empty list: the remaining quotient and the factors. Once the quotient
is 1 no candidate divides it, so going on is the same as the `return` inside the loop. -/
def factorLoop (N : Nat) : Nat × List Radix :=
  candidates.foldl (fun (acc : Nat × List Radix) r => divideOut N r acc.1 acc.2) (N, [])

/-- `Factorize(N)` (R141). -/
def factorize (N : Nat) : List Radix := (factorLoop N).2

/-- Which sizes `CFFT_INIT` accepts (R146): in range, quotient 1 after dividing by 3, 4, 2, 5, and at most one factor 5. -/
def accepted (N : Nat) : Bool :=
  decide (cfftNMin ≤ N) && decide (N ≤ cfftNMax) && (factorLoop N).1 == 1 && N % 25 != 0

/-- `TWOCT[g]` for `g = p/q` in lowest terms (R271, R276). -/
def twoctAt (p q : Nat) : Cplx :=
  match twoct.find? (fun e => e.p == p && e.q == q) with
  | some e => ⟨BitVec.ofNat 32 e.re, BitVec.ofNat 32 e.im⟩
  | none => Config.twUnlisted p q

/-- `TWOCT` at `num/den`, reduced to lowest terms. -/
def twoctFraction (num den : Nat) : Cplx :=
  twoctAt (num / Nat.gcd num den) (den / Nat.gcd num den)

/-- One quarter turn: `(c, s) = (fneg(s), c)` (R271). -/
def quarterTurn (z : Cplx) : Cplx := ⟨fneg z.im, z.re⟩

/-- A quarter turn repeated (R271). -/
def quarterTurns : Nat → Cplx → Cplx
  | 0, z => z
  | q + 1, z => quarterTurns q (quarterTurn z)

/-- A component equal to -0 becomes +0 (R270, R271). -/
def plusZero (a : F32) : F32 := if a = 0x80000000 then 0 else a

/-- `TW(k, N)` (R270) by the reduction of R271. With `f = k/N`, the quadrant is `q = floor(4*f)` and `g = f - q/4` is
`num / (4*N)` with `num = 4*k - q*N`. -/
def tw (k N : Nat) : Cplx :=
  let q := 4 * k / N
  let num := 4 * k % N
  let base :=
    if 8 * num ≤ 4 * N then twoctFraction num (4 * N)
    else let z := twoctFraction (N - num) (4 * N); ⟨z.im, z.re⟩
  let z := quarterTurns q base
  ⟨plusZero z.re, plusZero z.im⟩

/-- One stage of `TwiddleFill` (R148): `ip - 1` groups of `ido` entries, group `j` at multiples of `j * l1`. -/
def twiddleStage (N ip l1 ido : Nat) : List Cplx :=
  (List.range (ip - 1)).flatMap fun g =>
    (List.range ido).map fun m => tw (m * ((g + 1) * l1) % N) N

/-- The stages of `TwiddleFill` (R148) from the running product `l1` on. -/
def twiddleStages (N : Nat) : List Radix → Nat → List Cplx
  | [], _ => []
  | r :: rest, l1 =>
    twiddleStage N r.toNat l1 (N / (l1 * r.toNat)) ++ twiddleStages N rest (l1 * r.toNat)

/-- `TwiddleFill(N, fac)` (R148). -/
def twiddleFill (N : Nat) (fac : List Radix) : List Cplx := twiddleStages N fac 1

/-- A context built for size `N` (R148, R150, R200): `N`, `nf`, `fac`, `tw` written, the work buffer left as it is (R140). -/
def Context.build (c : Context) (N : Nat) : Context :=
  { c with N := N, nf := (factorize N).length, fac := factorize N, tw := twiddleFill N (factorize N) }

end Sys2Proof.Machine
end

