-- ==== Sys2Proof/Decode.lean ====
section
/-! DEFINITION. From descriptor to command and back: the decoder follows the masks and matches of R99 (`30_encoding.md`), the
encoder the field positions of R91 and R92. Also the byte order in which a host sees a word (R63, `20_memory.md`). -/

namespace Sys2Proof

/-- The bytes of a word as a byte-viewing host sees them, least significant first (R63). -/
def bytesOfWord (w : Word) : List Byte :=
  [w.extractLsb 7 0, w.extractLsb 15 8, w.extractLsb 23 16, w.extractLsb 31 24]

/-- The word whose byte `j` holds bits `8*j+7 : 8*j` (R63). -/
def wordOfBytes (b0 b1 b2 b3 : Byte) : Word := b3 ++ b2 ++ b1 ++ b0

/-- `OPC = W0[31:24]` (R91). -/
def Descriptor.opc (d : Descriptor) : BitVec 8 := d.w0.extractLsb 31 24

/-- `SEL = W0[23:22]` (R91). -/
def Descriptor.sel (d : Descriptor) : BitVec 2 := d.w0.extractLsb 23 22

/-- `B21 = W0[21]` (R91). -/
def Descriptor.b21 (d : Descriptor) : BitVec 1 := d.w0.extractLsb 21 21

/-- `B20 = W0[20]` (R91). -/
def Descriptor.b20 (d : Descriptor) : BitVec 1 := d.w0.extractLsb 20 20

/-- The reserved bits `W0[19:16]` (R91). -/
def Descriptor.reserved (d : Descriptor) : BitVec 4 := d.w0.extractLsb 19 16

/-- `IW = W0[15:0]` (R91). -/
def Descriptor.iw (d : Descriptor) : BitVec 16 := d.w0.extractLsb 15 0

/-- Why a descriptor is not a command. Each is one way of matching no row of R99. -/
inductive Reject where
  /-- Fewer bytes than the four words of a descriptor (R90). -/
  | truncated
  /-- `OPC` is not one of the seventeen (R100(a)). -/
  | unknownOpcode
  /-- `(W0 AND mask)` differs from the row's match (R99; R100(b), (c), (e), (f)). -/
  | fixedBits
  /-- `SEL = 3` where it names a context (R99; R100(d)). -/
  | selector
  /-- An operand word the format does not use is not 0 (R99; R100(c)). -/
  | operandWord
  deriving DecidableEq, Repr

/-- The context a `SEL` field names; 3 names none (R92). -/
def ctxOfSel (sel : BitVec 2) : Option Ctx :=
  match sel.toNat with
  | 0 => some .c0
  | 1 => some .c1
  | 2 => some .c2
  | _ => none

/-- The `SEL` field of a context (R92). -/
def Ctx.sel : Ctx → BitVec 2
  | .c0 => 0
  | .c1 => 1
  | .c2 => 2

/-- The slot of a format M descriptor; bit 23 is in the mask, so bit 22 decides (R99). -/
def slotOfSel (sel : BitVec 2) : Slot := if sel.getLsbD 0 then .m1 else .m0

/-- The `SEL` field of a slot (R92). -/
def Slot.sel : Slot → BitVec 2
  | .m0 => 0
  | .m1 => 1

/-- The window sequence of a `SEL` field (R96). -/
def windowSequenceOfSel (sel : BitVec 2) : WindowSequence :=
  match sel.toNat with
  | 0 => .onlyLong
  | 1 => .longStart
  | 2 => .eightShort
  | _ => .longStop

/-- The `SEL` field of a window sequence (R96). -/
def WindowSequence.sel : WindowSequence → BitVec 2
  | .onlyLong => 0
  | .longStart => 1
  | .eightShort => 2
  | .longStop => 3

/-- The shape of a shape bit (R97). -/
def shapeOfBit (b : BitVec 1) : Shape := if b = 1 then .kbd else .sine

/-- The shape bit of a shape (R97). -/
def Shape.bit : Shape → BitVec 1
  | .sine => 0
  | .kbd => 1

/-- The sign of the bit `S`: 0 is +1, 1 is -1 (R95). -/
def signOfBit (b : BitVec 1) : Sign := if b = 1 then .neg else .pos

/-- The bit `S` of a sign (R95). -/
def Sign.bit : Sign → BitVec 1
  | .pos => 0
  | .neg => 1

/-- `IDO = W3[31:16]` (R94). -/
def Descriptor.ido (d : Descriptor) : BitVec 16 := d.w3.extractLsb 31 16

/-- `L1 = W3[15:0]` (R94). -/
def Descriptor.l1 (d : Descriptor) : BitVec 16 := d.w3.extractLsb 15 0

/-- One row of R99: `i` when the fixed bits match and the unused operand words are 0. -/
def row (d : Descriptor) (mask fixed : Word) (unused : List Word) (i : Instr) : Except Reject Instr :=
  if d.w0 &&& mask ≠ fixed then .error .fixedBits
  else if unused.any (fun w => w != 0) then .error .operandWord
  else .ok i

/-- A row of R99 whose `SEL` names a context. -/
def ctxRow (d : Descriptor) (mask fixed : Word) (unused : List Word) (i : Ctx → Instr) : Except Reject Instr :=
  match ctxOfSel d.sel with
  | none => .error .selector
  | some c => row d mask fixed unused (i c)

/-- The command of a descriptor by the rows of R99, or why it is none. -/
def decodeDescriptor (d : Descriptor) : Except Reject Instr :=
  match d.opc.toNat with
  | 0x00 => row d 0xFFFFFFFF 0x00000000 [d.w1, d.w2, d.w3] .nop
  | 0x01 => row d 0xFFFFFFFF 0x01000000 [d.w1, d.w2, d.w3] .halt
  | 0x10 => row d 0xFFFFFFFF 0x10800000 [d.w2, d.w3] (.cfftInit d.w1)
  | 0x12 => row d 0xFFFFFFFF 0x12000000 [d.w2, d.w3] (.fbInit d.w1)
  | 0x20 => ctxRow d 0xFF3FFFFF 0x20000000 [d.w2, d.w3] (fun c => .cfftFwd c d.w1)
  | 0x21 => ctxRow d 0xFF3FFFFF 0x21000000 [d.w2, d.w3] (fun c => .cfftBwd c d.w1)
  | 0x22 => row d 0xFFBFFFFF 0x22000000 [d.w3] (.imdct (slotOfSel d.sel) d.w1 d.w2)
  | 0x23 => row d 0xFFBFFFFF 0x23000000 [d.w3] (.mdct (slotOfSel d.sel) d.w1 d.w2)
  | 0x30 => row d 0xFF0FFFFF 0x30000000 []
      (.ifb (windowSequenceOfSel d.sel) (shapeOfBit d.b21) (shapeOfBit d.b20) d.w1 d.w2 d.w3)
  | 0x31 => row d 0xFF0FFFFF 0x31000000 [d.w3]
      (.ffb (windowSequenceOfSel d.sel) (shapeOfBit d.b21) (shapeOfBit d.b20) d.w1 d.w2)
  | 0x40 => row d 0xFFFFFFFF 0x40000000 [d.w3] (.cmul d.w1 d.w2)
  | 0x42 => ctxRow d 0xFF3F0000 0x42000000 [] (fun c => .pass2p c d.iw d.ido d.l1 d.w1 d.w2)
  | 0x43 => ctxRow d 0xFF3F0000 0x43000000 [] (fun c => .pass2n c d.iw d.ido d.l1 d.w1 d.w2)
  | 0x44 => ctxRow d 0xFF3F0000 0x44000000 [] (fun c => .pass4p c d.iw d.ido d.l1 d.w1 d.w2)
  | 0x45 => ctxRow d 0xFF3F0000 0x45000000 [] (fun c => .pass4n c d.iw d.ido d.l1 d.w1 d.w2)
  | 0x46 => ctxRow d 0xFF1F0000 0x46000000 [] (fun c => .pass3 c (signOfBit d.b21) d.iw d.ido d.l1 d.w1 d.w2)
  | 0x47 => ctxRow d 0xFF1F0000 0x47000000 [] (fun c => .pass5 c (signOfBit d.b21) d.iw d.ido d.l1 d.w1 d.w2)
  | _ => .error .unknownOpcode

/-- The decoder on the bytes of a descriptor as the host lays them out (R63, R90); what follows the sixteen bytes is not
looked at. -/
def decode : List Byte → Except Reject Instr
  | a0 :: a1 :: a2 :: a3 :: b0 :: b1 :: b2 :: b3 :: c0 :: c1 :: c2 :: c3 :: d0 :: d1 :: d2 :: d3 :: _ =>
    decodeDescriptor
      { w0 := wordOfBytes a0 a1 a2 a3, w1 := wordOfBytes b0 b1 b2 b3,
        w2 := wordOfBytes c0 c1 c2 c3, w3 := wordOfBytes d0 d1 d2 d3 }
  | _ => .error .truncated

/-- `W0` from its fields (R91); bits 19:16 are 0. -/
def packW0 (opc : BitVec 8) (sel : BitVec 2) (b21 b20 : BitVec 1) (iw : BitVec 16) : Word :=
  opc ++ sel ++ b21 ++ b20 ++ (0 : BitVec 4) ++ iw

/-- A format P descriptor (R92). -/
def encodePass (opc : BitVec 8) (c : Ctx) (s : BitVec 1) (iw ido l1 : BitVec 16) (src dst : Word) : Descriptor :=
  { w0 := packW0 opc c.sel s 0 iw, w1 := src, w2 := dst, w3 := ido ++ l1 }

/-- The descriptor of a command (R91, R92, R120). -/
def encode : Instr → Descriptor
  | .nop => { w0 := packW0 0x00 0 0 0 0, w1 := 0, w2 := 0, w3 := 0 }
  | .halt => { w0 := packW0 0x01 0 0 0 0, w1 := 0, w2 := 0, w3 := 0 }
  | .cfftInit n => { w0 := packW0 0x10 2 0 0 0, w1 := n, w2 := 0, w3 := 0 }
  | .fbInit fl => { w0 := packW0 0x12 0 0 0 0, w1 := fl, w2 := 0, w3 := 0 }
  | .cfftFwd c a => { w0 := packW0 0x20 c.sel 0 0 0, w1 := a, w2 := 0, w3 := 0 }
  | .cfftBwd c a => { w0 := packW0 0x21 c.sel 0 0 0, w1 := a, w2 := 0, w3 := 0 }
  | .imdct m src dst => { w0 := packW0 0x22 m.sel 0 0 0, w1 := src, w2 := dst, w3 := 0 }
  | .mdct m src dst => { w0 := packW0 0x23 m.sel 0 0 0, w1 := src, w2 := dst, w3 := 0 }
  | .ifb ws s sp freq time ovl => { w0 := packW0 0x30 ws.sel s.bit sp.bit 0, w1 := freq, w2 := time, w3 := ovl }
  | .ffb ws s sp inp out => { w0 := packW0 0x31 ws.sel s.bit sp.bit 0, w1 := inp, w2 := out, w3 := 0 }
  | .cmul src dst => { w0 := packW0 0x40 0 0 0 0, w1 := src, w2 := dst, w3 := 0 }
  | .pass2p c iw ido l1 src dst => encodePass 0x42 c 0 iw ido l1 src dst
  | .pass2n c iw ido l1 src dst => encodePass 0x43 c 0 iw ido l1 src dst
  | .pass4p c iw ido l1 src dst => encodePass 0x44 c 0 iw ido l1 src dst
  | .pass4n c iw ido l1 src dst => encodePass 0x45 c 0 iw ido l1 src dst
  | .pass3 c s iw ido l1 src dst => encodePass 0x46 c s.bit iw ido l1 src dst
  | .pass5 c s iw ido l1 src dst => encodePass 0x47 c s.bit iw ido l1 src dst

/-- The sixteen bytes of a descriptor, `W0` first (R63, R90). -/
def Descriptor.bytes (d : Descriptor) : List Byte :=
  bytesOfWord d.w0 ++ bytesOfWord d.w1 ++ bytesOfWord d.w2 ++ bytesOfWord d.w3

/-- The four words of the number `w`: bit 0 of `w` is bit 0 of `W0`, and a later word's bits count on. Bits from `nbits` on
are taken as 0. -/
def descriptorOfNat (nbits w : Nat) : Descriptor :=
  let v := w % 2 ^ nbits
  { w0 := BitVec.ofNat 32 v, w1 := BitVec.ofNat 32 (v / 2 ^ 32),
    w2 := BitVec.ofNat 32 (v / 2 ^ 64), w3 := BitVec.ofNat 32 (v / 2 ^ 96) }

/-- The command the decoder reads from the bits `w` of a row of the opcode table, laid out as bytes. -/
def decodeTableWord (nbits w : Nat) : Option Instr :=
  match decode (descriptorOfNat nbits w).bytes with
  | .ok i => some i
  | .error _ => none

end Sys2Proof
end

