-- ==== Sys2Proof/Machine/Ops.lean ====
section
/-! DEFINITION. The named operations over memory and registers (R16, `00_scope.md`), taking a fault (R310, `60_exceptions.md`) and
the only way out of it, reset (R312, R340). -/

namespace Sys2Proof.Machine

/-! ### Memory -/

/-- The byte at a byte address of the aperture (R63). -/
def Memory.readByte : Memory → Nat → Byte
  | [], _ => Memory.unlisted
  | c :: rest, k => if c.1 = k then c.2 else Memory.readByte rest k

/-- The cells that hold `bs` from the byte address `k` on; an unlisted byte gets no cell. -/
def cellsOf : Nat → List Byte → Memory
  | _, [] => []
  | k, b :: bs => if b = Memory.unlisted then cellsOf (k + 1) bs else (k, b) :: cellsOf (k + 1) bs

/-- The bytes `bs` stored from the byte address `k` on; every other byte keeps its value. -/
def Memory.writeBytes (m : Memory) (k : Nat) (bs : List Byte) : Memory :=
  m.filter (fun c => decide (c.1 < k)) ++ cellsOf k bs ++ m.filter (fun c => decide (k + bs.length ≤ c.1))

/-- `DMEM[a]` (R60, R63). -/
def Memory.readWord (m : Memory) (a : Nat) : Word :=
  wordOfBytes (m.readByte (4 * a)) (m.readByte (4 * a + 1)) (m.readByte (4 * a + 2)) (m.readByte (4 * a + 3))

/-- `MemRead(a, n)` (R16). -/
def Memory.readWords (m : Memory) (a n : Nat) : List Word := (List.range n).map fun i => m.readWord (a + i)

/-- `MemWrite(a, n, v)` (R16). -/
def Memory.writeWords (m : Memory) (a : Nat) (ws : List Word) : Memory := m.writeBytes (4 * a) (ws.flatMap bytesOfWord)

/-- `RdC(A, i)` for `i` in `[0, n)` (R15, R16). -/
def Memory.readComplex (m : Memory) (a n : Nat) : List Cplx :=
  (List.range n).map fun i => ⟨m.readWord (a + 2 * i), m.readWord (a + 2 * i + 1)⟩

/-- The words of a complex array, real part first (R15). -/
def wordsOfComplex (zs : List Cplx) : List Word := zs.flatMap fun z => [z.re, z.im]

/-- `WrC(A, i, z)` for a whole array (R15, R16). -/
def Memory.writeComplex (m : Memory) (a : Nat) (zs : List Cplx) : Memory := m.writeWords a (wordsOfComplex zs)

/-- The memory with `ws` stored at word address `a` (R16). -/
def State.storeWords (s : State) (a : Word) (ws : List Word) : State := { s with mem := s.mem.writeWords a.toNat ws }

/-- The memory with the complex array `zs` stored at word address `a` (R16). -/
def State.storeComplex (s : State) (a : Word) (zs : List Cplx) : State := { s with mem := s.mem.writeComplex a.toNat zs }

/-! ### Instances -/

/-- `cfft[c]` (R40). -/
def State.ctx (s : State) (c : Ctx) : Context :=
  match c with
  | .c0 => s.cfft0
  | .c1 => s.cfft1
  | .c2 => s.cfft2

/-- `cfft[c]` replaced. -/
def State.setCtx (s : State) (c : Ctx) (x : Context) : State :=
  match c with
  | .c0 => { s with cfft0 := x }
  | .c1 => { s with cfft1 := x }
  | .c2 => { s with cfft2 := x }

/-- The work buffer of `cfft[c]` replaced (R43). -/
def State.setWork (s : State) (c : Ctx) (work : List Cplx) : State := s.setCtx c { s.ctx c with work := work }

/-- Context `c` is valid: `CU_V` for context 2, `FB_V` for 0 and 1 (R40). -/
def State.ctxValid (s : State) (c : Ctx) : Bool :=
  match c with
  | .c0 => s.fbV
  | .c1 => s.fbV
  | .c2 => s.cuV

/-- The context an MDCT slot owns (R44). -/
def slotCtx : Slot → Ctx
  | .m0 => .c0
  | .m1 => .c1

/-- `mdct[m].Z` replaced (R44). -/
def State.setZ (s : State) (m : Slot) (z : List Cplx) : State :=
  match m with
  | .m0 => { s with z0 := z }
  | .m1 => { s with z1 := z }

/-! ### The command pointer, faults, reset -/

/-- `cp <- cp + 4` (R24). -/
def State.advance (s : State) : State := { s with cp := s.cp + 4 }

/-- The fault codes (R301). -/
inductive FaultCode where
  | illegal
  | addr
  | overlap
  | notReady
  | size8
  | noTab
  | factor
  | winSeq
  | passArg
  deriving DecidableEq, Repr

/-- The number of a fault code (R301). -/
def faultNumber : FaultCode → BitVec 4
  | .illegal => 1
  | .addr => 2
  | .overlap => 3
  | .notReady => 4
  | .size8 => 5
  | .noTab => 6
  | .factor => 7
  | .winSeq => 8
  | .passArg => 9

/-- Fault entry (R310): `FCODE`, `FCP <- CP`, `FINFO`, `FAULT <- 1`, `BUSY <- 0`; nothing else changes. -/
def State.raise (s : State) (code : FaultCode) (info : Word) : State :=
  { s with fcode := faultNumber code, fcp := s.cp, finfo := info, fault := true, busy := false }

/-- Reset with DMEM kept (R340(b), (c)), the only exit from a fault (R312): registers, flags and instances as after power-on; the
host's side and the reset line, which are not the CORE's, keep theirs. The instance values are those of log entry 4. -/
def State.resetKeepingDmem (s : State) : State :=
  { State.powerOn s.params s.mem with
    resetIn := s.resetIn, hostIn := s.hostIn, hostQueue := s.hostQueue, hostReads := s.hostReads
    freeCount := s.freeCount }

end Sys2Proof.Machine
end

