-- ==== Sys2Proof/Machine/Flags.lean ====
section
/-! DEFINITION. The flags of `STATUS` (R27, R33, `10_state.md`): what sets and clears each. There are no condition codes (R26).
`FAULT` is set by `State.raise`, and reset clears all five. -/

namespace Sys2Proof.Machine

/-- The word a read of `STATUS` returns (R33): exactly 1 while `BUSY = 1`, else the flags in their bits. -/
def State.statusWord (s : State) : Word :=
  if s.busy then 1
  else BitVec.ofNat 32
    ((if s.done then 2 else 0) + (if s.fault then 4 else 0) + (if s.fbV then 16 else 0) + (if s.cuV then 32 else 0))

/-- A run starts (R32, R250): `DONE <- 0; BUSY <- 1`. -/
def State.startRun (s : State) : State := { s with done := false, busy := true }

/-- `HALT` ends the run (R253): `BUSY <- 0; DONE <- 1`. -/
def State.haltRun (s : State) : State := { s with busy := false, done := true }

/-- `FB_V <- 1` (R220). -/
def State.markFb (s : State) : State := { s with fbV := true }

/-- `CU_V <- 1` (R150). -/
def State.markCu (s : State) : State := { s with cuV := true }

end Sys2Proof.Machine
end

