-- ==== Sys2Proof/Machine/Operands.lean ====
section
/-! DEFINITION. Operand regions and the checks of a command, in the order of R114 (`30_encoding.md`) and R313
(`60_exceptions.md`); every check comes before the command's first write (R320). -/

namespace Sys2Proof.Machine

/-- The direction of an operand region (R111). -/
inductive Direction where
  | input
  | output
  | inout
  deriving DecidableEq, Repr

/-- One operand region (R111): base word address, length in words, direction. -/
structure Region where
  base : Word
  len : Nat
  dir : Direction
  deriving DecidableEq, Repr

/-- `n = r * L1 * IDO` (R160, R164). -/
def passPoints (r : Nat) (ido l1 : BitVec 16) : Nat := r * l1.toNat * ido.toNat

/-- The two regions of a PASS command (R111). -/
def passRegions (r : Nat) (ido l1 : BitVec 16) (src dst : Word) : List Region :=
  [⟨src, 2 * passPoints r ido l1, .input⟩, ⟨dst, 2 * passPoints r ido l1, .output⟩]

/-- The operand regions of a command, in the order of R111. -/
def regions (s : State) : Instr → List Region
  | .nop => []
  | .halt => []
  | .cfftInit _ => []
  | .fbInit _ => []
  | .cfftFwd c a => [⟨a, 2 * (s.ctx c).N, .inout⟩]
  | .cfftBwd c a => [⟨a, 2 * (s.ctx c).N, .inout⟩]
  | .imdct m src dst => [⟨src, mdctSize m / 2, .input⟩, ⟨dst, mdctSize m, .output⟩]
  | .mdct m src dst => [⟨src, mdctSize m, .input⟩, ⟨dst, mdctSize m / 2, .output⟩]
  | .ifb _ _ _ freq time ovl => [⟨freq, frameLen, .input⟩, ⟨time, frameLen, .output⟩, ⟨ovl, frameLen, .inout⟩]
  | .ffb _ _ _ inp out => [⟨inp, 2 * frameLen, .input⟩, ⟨out, frameLen, .output⟩]
  | .cmul src dst => [⟨src, 4, .input⟩, ⟨dst, 2, .output⟩]
  | .pass2p _ _ ido l1 src dst => passRegions 2 ido l1 src dst
  | .pass2n _ _ ido l1 src dst => passRegions 2 ido l1 src dst
  | .pass4p _ _ ido l1 src dst => passRegions 4 ido l1 src dst
  | .pass4n _ _ ido l1 src dst => passRegions 4 ido l1 src dst
  | .pass3 _ _ _ ido l1 src dst => passRegions 3 ido l1 src dst
  | .pass5 _ _ _ ido l1 src dst => passRegions 5 ido l1 src dst

/-- One check of a command: whether it fails, and the fault it then raises. -/
structure Check where
  fails : Bool
  code : FaultCode
  info : Word
  deriving DecidableEq, Repr

/-- Two regions intersect (R113). -/
def Region.intersects (p q : Region) : Bool :=
  decide (p.base.toNat < q.base.toNat + q.len) && decide (q.base.toNat < p.base.toNat + p.len)

/-- Range checks, regions in order (R112): `base + length > DMEM_WORDS`, in unbounded arithmetic (R255). -/
def rangeChecks (p : Params) (rs : List Region) : List Check :=
  rs.map fun r => ⟨decide (p.dmemWords < r.base.toNat + r.len), .addr, r.base⟩

/-- Disjointness checks, pairs in the order (1,2), (1,3), (2,3) (R113). -/
def overlapChecks : List Region → List Check
  | [] => []
  | r :: rest => (rest.map fun q => ⟨r.intersects q, .overlap, q.base⟩) ++ overlapChecks rest

/-- `E_NOTREADY` with the `SEL` field (R305). -/
def notReady (valid : Bool) (sel : BitVec 2) : Check := ⟨!valid, .notReady, sel.zeroExtend 32⟩

/-- `MdctCheck(M)` (R200): the `% 8` test first. -/
def mdctChecks (M : Nat) : List Check :=
  [⟨M % 8 != 0, .size8, BitVec.ofNat 32 M⟩, ⟨M != 256 && M != 2048, .noTab, BitVec.ofNat 32 M⟩]

/-- The four argument tests of a PASS command (R164, R311), in order; `FINFO = W3`. The last, `IW + (r-1)*IDO > N - 1`, is
written without the subtraction. -/
def passArgChecks (s : State) (r : Nat) (c : Ctx) (iw ido l1 : BitVec 16) : List Check :=
  [⟨ido == 0 || l1 == 0, .passArg, ido ++ l1⟩,
   ⟨decide (cfftNMax < passPoints r ido l1), .passArg, ido ++ l1⟩,
   ⟨r == 5 && ido != 1, .passArg, ido ++ l1⟩,
   ⟨decide ((s.ctx c).N < iw.toNat + (r - 1) * ido.toNat + 1), .passArg, ido ++ l1⟩]

/-- Validity, then the arguments, of a PASS command (R114, steps 5 and 6). -/
def passChecks (s : State) (r : Nat) (c : Ctx) (iw ido l1 : BitVec 16) : List Check :=
  notReady (s.ctxValid c) c.sel :: passArgChecks s r c iw ido l1

/-- The checks before the operand regions' (R114, steps 3 to 6). -/
def commandChecks (s : State) : Instr → List Check
  | .nop => []
  | .halt => []
  | .cfftInit n => [⟨!accepted n.toNat, .factor, n⟩]
  | .fbInit fl => mdctChecks (2 * (fl.toNat / 8)) ++ mdctChecks (2 * fl.toNat)
  | .cfftFwd c _ => [notReady (s.ctxValid c) c.sel]
  | .cfftBwd c _ => [notReady (s.ctxValid c) c.sel]
  | .imdct m _ _ => [notReady s.fbV m.sel]
  | .mdct m _ _ => [notReady s.fbV m.sel]
  | .ifb ws _ _ _ _ _ => [notReady s.fbV ws.sel]
  | .ffb ws _ _ _ _ => [⟨ws != .onlyLong, .winSeq, ws.sel.zeroExtend 32⟩, notReady s.fbV 0]
  | .cmul _ _ => []
  | .pass2p c iw ido l1 _ _ => passChecks s 2 c iw ido l1
  | .pass2n c iw ido l1 _ _ => passChecks s 2 c iw ido l1
  | .pass4p c iw ido l1 _ _ => passChecks s 4 c iw ido l1
  | .pass4n c iw ido l1 _ _ => passChecks s 4 c iw ido l1
  | .pass3 c _ iw ido l1 _ _ => passChecks s 3 c iw ido l1
  | .pass5 c _ iw ido l1 _ _ => passChecks s 5 c iw ido l1

/-- All the checks of a decoded command, in the order of R114 (steps 3 to 8). -/
def checks (s : State) (i : Instr) : List Check :=
  commandChecks s i ++ rangeChecks s.params (regions s i) ++ overlapChecks (regions s i)

/-- The first check that fails decides the fault (R114). -/
def firstFailure : List Check → Option (FaultCode × Word)
  | [] => none
  | c :: rest => if c.fails then some (c.code, c.info) else firstFailure rest

/-- A command (R251, steps 2 to 4): the first failing check is taken as a fault, with nothing else changed (R320); else the
effect, then `CP + 4`. -/
def State.perform (s : State) (i : Instr) (effect : State → State) : Host.Outcome State Fault Refusal :=
  match firstFailure (checks s i) with
  | some (code, info) => .next (s.raise code info)
  | none => .next (effect s).advance

end Sys2Proof.Machine
end

