-- ==== Sys2Proof/Machine/Construct.lean ====
section
/-! DEFINITION. The construction commands `CFFT_INIT` (R150, `41_cfft_construction.md`) and `FB_INIT` (R220,
`45_filterbank.md`). -/

namespace Sys2Proof.Machine

/-- `CFFT_INIT c2, N` (R150): the user context is built and `CU_V <- 1`. -/
def execCfftInit (n : Word) (s : State) : Host.Outcome State Fault Refusal :=
  s.perform (.cfftInit n) fun s => (s.setCtx .c2 ((s.ctx .c2).build n.toNat)).markCu

/-- `MdctBuild(m, M)` (R200): the context of slot `m` is built for `M / 4`. -/
def State.mdctBuild (s : State) (m : Slot) : State :=
  s.setCtx (slotCtx m) ((s.ctx (slotCtx m)).build (mdctSize m / 4))

/-- `FB_INIT frameLength` (R220): both slots are built and `FB_V <- 1`. -/
def execFbInit (frameLength : Word) (s : State) : Host.Outcome State Fault Refusal :=
  s.perform (.fbInit frameLength) fun s => ((s.mdctBuild .m0).mdctBuild .m1).markFb

end Sys2Proof.Machine
end

