-- ==== Sys2Proof/Machine/Butterfly.lean ====
section
/-! DEFINITION. The butterfly unit: the radix-2, 3, 4 and 5 passes (R160 to R175, `42_butterflies.md`) as functions from the
input array `cc` to the output array `ch`. -/

namespace Sys2Proof.Machine

/-- `TAUR` (R161). -/
def taur : F32 := 0xBF000000
/-- `TAUI` (R161). -/
def taui : F32 := 0x3F5DB3D7
/-- `TR11` (R161). -/
def tr11 : F32 := 0x3E9E377A
/-- `TI11` (R161). -/
def ti11 : F32 := 0x3F737871
/-- `TR12` (R161). -/
def tr12 : F32 := 0xBF4F1BBD
/-- `TI12` (R161). -/
def ti12 : F32 := 0x3F167918

/-- The array of a pass (R160): output `j` of the butterfly `(k, i)` stands at `i + ido*(k + l1*j)`. -/
def passArray (r ido l1 : Nat) (out : (k i j : Nat) → Cplx) : List Cplx :=
  (List.range (r * l1 * ido)).map fun p => out (p / ido % l1) (p % ido) (p / ido / l1)

/-- Input `j` of the butterfly `(k, i)` of a radix-`r` pass (R160). -/
def passIn (r ido : Nat) (cc : List Cplx) (k i j : Nat) : Cplx := elemC cc (i + ido * (r * k + j))

/-- Output `j` after the rotation by `wa_j[i] = tw[iw + (j-1)*ido + i]` (R162): output 0 is never rotated, and with `ido = 1` none
is. -/
def twiddled (isign : Sign) (ido : Nat) (tw : List Cplx) (iw i j : Nat) (d : Cplx) : Cplx :=
  if j = 0 ∨ ido = 1 then d else rot isign d (elemC tw (iw + (j - 1) * ido + i))

/-- The radix-2 butterfly (R165, R166): sum and difference. -/
def bfly2 (a b : Cplx) (j : Nat) : Cplx :=
  match j with
  | 0 => cadd a b
  | _ => csub a b

/-- `Pass2` (R165, R166, R172). -/
def pass2 (isign : Sign) (ido l1 : Nat) (cc tw : List Cplx) (iw : Nat) : List Cplx :=
  passArray 2 ido l1 fun k i j =>
    twiddled isign ido tw iw i j (bfly2 (passIn 2 ido cc k i 0) (passIn 2 ido cc k i 1) j)

/-- `a + isign*i*b` in complex terms (R167, R171). -/
def crossPlus (isign : Sign) (a b : Cplx) : Cplx :=
  match isign with
  | .pos => ⟨fsub a.re b.im, fadd a.im b.re⟩
  | .neg => ⟨fadd a.re b.im, fsub a.im b.re⟩

/-- `a - isign*i*b` in complex terms (R167, R171). -/
def crossMinus (isign : Sign) (a b : Cplx) : Cplx :=
  match isign with
  | .pos => ⟨fadd a.re b.im, fsub a.im b.re⟩
  | .neg => ⟨fsub a.re b.im, fadd a.im b.re⟩

/-- The radix-3 butterfly (R167). -/
def bfly3 (isign : Sign) (x0 x1 x2 : Cplx) (j : Nat) : Cplx :=
  let t2 := cadd x1 x2
  let c2 : Cplx := ⟨fadd x0.re (fmul t2.re taur), fadd x0.im (fmul t2.im taur)⟩
  let c3 : Cplx := ⟨fmul (fsub x1.re x2.re) taui, fmul (fsub x1.im x2.im) taui⟩
  match j with
  | 0 => cadd x0 t2
  | 1 => crossPlus isign c2 c3
  | _ => crossMinus isign c2 c3

/-- `Pass3` (R167). -/
def pass3 (isign : Sign) (ido l1 : Nat) (cc tw : List Cplx) (iw : Nat) : List Cplx :=
  passArray 3 ido l1 fun k i j =>
    twiddled isign ido tw iw i j
      (bfly3 isign (passIn 3 ido cc k i 0) (passIn 3 ido cc k i 1) (passIn 3 ido cc k i 2) j)

/-- The sums of `Quad` (R168). -/
def quadT1 (x0 x2 : Cplx) : Cplx := csub x0 x2
/-- The sums of `Quad` (R168). -/
def quadT2 (x0 x2 : Cplx) : Cplx := cadd x0 x2
/-- The sums of `Quad` (R168): the imaginary sum takes `x3` first. -/
def quadT3 (x1 x3 : Cplx) : Cplx := ⟨fadd x1.re x3.re, fadd x3.im x1.im⟩
/-- The cross term of `Quad` (R168): `-i * (x1 - x3)`. -/
def quadT4 (x1 x3 : Cplx) : Cplx := ⟨fsub x3.im x1.im, fsub x1.re x3.re⟩

/-- The radix-4 butterfly (R169, R170): the direction exchanges the formulas of outputs 1 and 3. -/
def bfly4 (isign : Sign) (x0 x1 x2 x3 : Cplx) (j : Nat) : Cplx :=
  let t1 := quadT1 x0 x2
  let t2 := quadT2 x0 x2
  let t3 := quadT3 x1 x3
  let t4 := quadT4 x1 x3
  match j with
  | 0 => cadd t2 t3
  | 1 => (match isign with
    | .pos => cadd t1 t4
    | .neg => csub t1 t4)
  | 2 => csub t2 t3
  | _ => (match isign with
    | .pos => csub t1 t4
    | .neg => cadd t1 t4)

/-- `Pass4` (R169, R170, R173). -/
def pass4 (isign : Sign) (ido l1 : Nat) (cc tw : List Cplx) (iw : Nat) : List Cplx :=
  passArray 4 ido l1 fun k i j =>
    twiddled isign ido tw iw i j
      (bfly4 isign (passIn 4 ido cc k i 0) (passIn 4 ido cc k i 1) (passIn 4 ido cc k i 2) (passIn 4 ido cc k i 3) j)

/-- One component of `c2`, `c3` of the radix-5 butterfly (R171): `x0 + t2*a + t3*b`, left to right. -/
def sum5 (x0 t2 t3 a b : F32) : F32 := fadd (fadd x0 (fmul t2 a)) (fmul t3 b)

/-- The radix-5 butterfly (R171). -/
def bfly5 (isign : Sign) (x0 x1 x2 x3 x4 : Cplx) (j : Nat) : Cplx :=
  let t2 := cadd x1 x4
  let t3 := cadd x2 x3
  let t4 := csub x2 x3
  let t5 := csub x1 x4
  let c2 : Cplx := ⟨sum5 x0.re t2.re t3.re tr11 tr12, sum5 x0.im t2.im t3.im tr11 tr12⟩
  let c3 : Cplx := ⟨sum5 x0.re t2.re t3.re tr12 tr11, sum5 x0.im t2.im t3.im tr12 tr11⟩
  let c5 : Cplx := ⟨fadd (fmul t5.re ti11) (fmul t4.re ti12), fadd (fmul t5.im ti11) (fmul t4.im ti12)⟩
  let c4 : Cplx := ⟨fsub (fmul t5.re ti12) (fmul t4.re ti11), fsub (fmul t5.im ti12) (fmul t4.im ti11)⟩
  match j with
  | 0 => ⟨fadd (fadd x0.re t2.re) t3.re, fadd (fadd x0.im t2.im) t3.im⟩
  | 1 => crossPlus isign c2 c5
  | 2 => crossPlus isign c3 c4
  | 3 => crossMinus isign c3 c4
  | _ => crossMinus isign c2 c5

/-- `Pass5` (R171): `ido` is 1 and no twiddle is read; there is no radix-5 pass with a larger `ido` (R174). -/
def pass5 (isign : Sign) (l1 : Nat) (cc : List Cplx) : List Cplx :=
  passArray 5 1 l1 fun k i j =>
    bfly5 isign (passIn 5 1 cc k i 0) (passIn 5 1 cc k i 1) (passIn 5 1 cc k i 2) (passIn 5 1 cc k i 3)
      (passIn 5 1 cc k i 4) j

/-- `Pass_ip` (R190): the pass of a factor. -/
def passOf (r : Radix) (isign : Sign) (ido l1 : Nat) (cc tw : List Cplx) (iw : Nat) : List Cplx :=
  match r with
  | .r2 => pass2 isign ido l1 cc tw iw
  | .r3 => pass3 isign ido l1 cc tw iw
  | .r4 => pass4 isign ido l1 cc tw iw
  | .r5 => pass5 isign l1 cc

end Sys2Proof.Machine
end

