-- ==== Sys2Proof/Machine/Fft.lean ====
section
/-! DEFINITION. The FFT stage driver (R190) and the commands `CFFT_FWD`, `CFFT_BWD` (R191, R192, `43_cfft_driver.md`). -/

namespace Sys2Proof.Machine

/-- The stage loop of R190 over the remaining factors: `l1`, `iw` as at the next stage, `na` true when `work` is the source. Each
stage fills the other buffer and flips `na`. Answers the final `na`, `buf`, `work`. -/
def fftStages (N : Nat) (tw : List Cplx) (isign : Sign) :
    List Radix → Nat → Nat → Bool → List Cplx → List Cplx → Bool × List Cplx × List Cplx
  | [], _, _, na, buf, work => (na, buf, work)
  | r :: rest, l1, iw, na, buf, work =>
    let ido := N / (r.toNat * l1)
    let ch := passOf r isign ido l1 (if na then work else buf) tw iw
    fftStages N tw isign rest (r.toNat * l1) (iw + (r.toNat - 1) * ido) (!na) (if na then ch else buf)
      (if na then work else ch)

/-- `CfftRun(c, buf, isign)` (R190): the transformed buffer, and what the work buffer is left holding (R193(e)). -/
def cfftRun (c : Context) (buf : List Cplx) (isign : Sign) : List Cplx × List Cplx :=
  let out := fftStages c.N c.tw isign (c.fac.take c.nf) 1 0 false buf c.work
  (if out.1 then out.2.2 else out.2.1, out.2.2)

/-- The effect of `CFFT_FWD` and `CFFT_BWD` (R191, R192). -/
def cfftEffect (c : Ctx) (a : Word) (isign : Sign) (s : State) : State :=
  let out := cfftRun (s.ctx c) (s.mem.readComplex a.toNat (s.ctx c).N) isign
  (s.storeComplex a out.1).setWork c out.2

/-- `CFFT_FWD cK, @A` (R191). -/
def execCfftFwd (c : Ctx) (a : Word) (s : State) : Host.Outcome State Fault Refusal :=
  s.perform (.cfftFwd c a) (cfftEffect c a .neg)

/-- `CFFT_BWD cK, @A` (R192). -/
def execCfftBwd (c : Ctx) (a : Word) (s : State) : Host.Outcome State Fault Refusal :=
  s.perform (.cfftBwd c a) (cfftEffect c a .pos)

end Sys2Proof.Machine
end

