-- ==== Sys2Proof/Machine/RomRotation.lean ====
section
/-! DEFINITION. The two MDCT rotation tables `ROT256` and `ROT2048` (R272, `50_rom_tables.md`), word for word from the
listings: real part, imaginary part, entry after entry. -/

namespace Sys2Proof.Machine

/-- ROT256 (R272), words 0 to 127. -/
def rot256Words0 : List Nat :=
  [0x3DB504BB, 0x398E2C0A, 0x3DB4F349, 0x3B1FEC68, 0x3DB4C5F0, 0x3B96FD53, 0x3DB47CB6, 0x3BDDED29,
   0x3DB417A7, 0x3C125D63, 0x3DB396D3, 0x3C35ADA0, 0x3DB2FA4D, 0x3C58E1D9, 0x3DB2422E, 0x3C7BF4A0,
   0x3DB16E92, 0x3C8F7046, 0x3DB07F9A, 0x3CA0D01E, 0x3DAF756A, 0x3CB2172A, 0x3DAE502B, 0x3CC342BF,
   0x3DAD100C, 0x3CD45038, 0x3DABB53C, 0x3CE53CF3, 0x3DAA3FF2, 0x3CF60656, 0x3DA8B067, 0x3D0354E4,
   0x3DA706D9, 0x3D0B925C, 0x3DA54389, 0x3D13BA4F, 0x3DA366BD, 0x3D1BCB7A, 0x3DA170BF, 0x3D23C49F,
   0x3D9F61DC, 0x3D2BA482, 0x3D9D3A64, 0x3D3369EE, 0x3D9AFAAE, 0x3D3B13AF, 0x3D98A312, 0x3D42A097,
   0x3D9633ED, 0x3D4A0F7C, 0x3D93AD9D, 0x3D515F39, 0x3D911088, 0x3D588EAC, 0x3D8E5D15, 0x3D5F9CBA,
   0x3D8B93AD, 0x3D66884D, 0x3D88B4C0, 0x3D6D5053, 0x3D85C0BE, 0x3D73F3C1, 0x3D82B81B, 0x3D7A7190,
   0x3D7F36A1, 0x3D806460, 0x3D78D5B1, 0x3D837C2C, 0x3D724E62, 0x3D867FB2, 0x3D6BA1B5, 0x3D896E7A,
   0x3D64D0B3, 0x3D8C4810, 0x3D5DDC67, 0x3D8F0C05, 0x3D56C5E5, 0x3D91B9EB, 0x3D4F8E45, 0x3D945158,
   0x3D4836A4, 0x3D96D1E6, 0x3D40C022, 0x3D993B32, 0x3D392BE8, 0x3D9B8CDD, 0x3D317B1F, 0x3D9DC68B,
   0x3D29AEF8, 0x3D9FE7E5, 0x3D21C8A7, 0x3DA1F097, 0x3D19C963, 0x3DA3E050, 0x3D11B268, 0x3DA5B6C3,
   0x3D0984F6, 0x3DA773A9, 0x3D01424F, 0x3DA916BC, 0x3CF1D772, 0x3DAA9FBD, 0x3CE104FB, 0x3DAC0E6D,
   0x3CD00FD1, 0x3DAD6296, 0x3CBEFA92, 0x3DAE9C02, 0x3CADC7DF, 0x3DAFBA81, 0x3C9C7A61, 0x3DB0BDE7,
   0x3C8B14C1, 0x3DB1A60B, 0x3C73335C, 0x3DB272CB, 0x3C5017B7, 0x3DB32406, 0x3C2CDBFB, 0x3DB3B9A2,
   0x3C098597, 0x3DB43386, 0x3BCC33FC, 0x3DB491A1, 0x3B853D4C, 0x3DB4D3E3, 0x3AF8C846, 0x3DB4FA44]

/-- The whole table ROT256 (R272), flattened. -/
def rot256Words : List Nat :=
  rot256Words0

/-- ROT2048 (R272), words 0 to 127. -/
def rot2048Words0 : List Nat :=
  [0x3CFFFFFF, 0x37490FDA, 0x3CFFFF9C, 0x38E231B9, 0x3CFFFE9B, 0x3955A075, 0x3CFFFCFD, 0x399D13C5,
   0x3CFFFAC1, 0x39CF56EF, 0x3CFFF7E6, 0x3A00CCCC, 0x3CFFF46E, 0x3A19EDD2, 0x3CFFF058, 0x3A330E78,
   0x3CFFEBA4, 0x3A4C2EB0, 0x3CFFE652, 0x3A654E6A, 0x3CFFE062, 0x3A7E6D97, 0x3CFFD9D5, 0x3A8BC613,
   0x3CFFD2A9, 0x3A985505, 0x3CFFCAE0, 0x3AA4E399, 0x3CFFC279, 0x3AB171C6, 0x3CFFB975, 0x3ABDFF87,
   0x3CFFAFD2, 0x3ACA8CD2, 0x3CFFA592, 0x3AD719A1, 0x3CFF9AB4, 0x3AE3A5EA, 0x3CFF8F39, 0x3AF031A8,
   0x3CFF831F, 0x3AFCBCD1, 0x3CFF7669, 0x3B04A3AF, 0x3CFF6914, 0x3B0AE8A4, 0x3CFF5B22, 0x3B112D43,
   0x3CFF4C93, 0x3B177188, 0x3CFF3D66, 0x3B1DB570, 0x3CFF2D9C, 0x3B23F8F7, 0x3CFF1D34, 0x3B2A3C19,
   0x3CFF0C2F, 0x3B307ED2, 0x3CFEFA8C, 0x3B36C11D, 0x3CFEE84C, 0x3B3D02F8, 0x3CFED56F, 0x3B43445F,
   0x3CFEC1F5, 0x3B49854D, 0x3CFEADDE, 0x3B4FC5BF, 0x3CFE9929, 0x3B5605B0, 0x3CFE83D8, 0x3B5C451E,
   0x3CFE6DEA, 0x3B628403, 0x3CFE575E, 0x3B68C25D, 0x3CFE4036, 0x3B6F0028, 0x3CFE2871, 0x3B753D5F,
   0x3CFE100F, 0x3B7B79FE, 0x3CFDF710, 0x3B80DB01, 0x3CFDDD75, 0x3B83F8B4, 0x3CFDC33D, 0x3B871616,
   0x3CFDA868, 0x3B8A3324, 0x3CFD8CF8, 0x3B8D4FDC, 0x3CFD70EA, 0x3B906C3E, 0x3CFD5441, 0x3B938847,
   0x3CFD36FB, 0x3B96A3F4, 0x3CFD1919, 0x3B99BF45, 0x3CFCFA9A, 0x3B9CDA36, 0x3CFCDB80, 0x3B9FF4C8,
   0x3CFCBBCA, 0x3BA30EF6, 0x3CFC9B78, 0x3BA628C0, 0x3CFC7A8A, 0x3BA94223, 0x3CFC5900, 0x3BAC5B1E,
   0x3CFC36DB, 0x3BAF73AE, 0x3CFC141A, 0x3BB28BD3, 0x3CFBF0BD, 0x3BB5A389, 0x3CFBCCC5, 0x3BB8BACF,
   0x3CFBA832, 0x3BBBD1A3, 0x3CFB8304, 0x3BBEE804, 0x3CFB5D3A, 0x3BC1FDEE, 0x3CFB36D6, 0x3BC51361]

/-- ROT2048 (R272), words 128 to 255. -/
def rot2048Words1 : List Nat :=
  [0x3CFB0FD6, 0x3BC8285A, 0x3CFAE83C, 0x3BCB3CD8, 0x3CFAC006, 0x3BCE50D9, 0x3CFA9737, 0x3BD1645A,
   0x3CFA6DCC, 0x3BD4775A, 0x3CFA43C7, 0x3BD789D7, 0x3CFA1928, 0x3BDA9BCF, 0x3CF9EDEE, 0x3BDDAD40,
   0x3CF9C21A, 0x3BE0BE29, 0x3CF995AD, 0x3BE3CE87, 0x3CF968A5, 0x3BE6DE58, 0x3CF93B03, 0x3BE9ED9B,
   0x3CF90CC8, 0x3BECFC4E, 0x3CF8DDF3, 0x3BF00A6E, 0x3CF8AE84, 0x3BF317FA, 0x3CF87E7D, 0x3BF624F1,
   0x3CF84DDB, 0x3BF9314F, 0x3CF81CA1, 0x3BFC3D14, 0x3CF7EACE, 0x3BFF483D, 0x3CF7B861, 0x3C012965,
   0x3CF7855C, 0x3C02AE5B, 0x3CF751BE, 0x3C043300, 0x3CF71D88, 0x3C05B755, 0x3CF6E8B9, 0x3C073B56,
   0x3CF6B352, 0x3C08BF04, 0x3CF67D53, 0x3C0A425E, 0x3CF646BB, 0x3C0BC563, 0x3CF60F8C, 0x3C0D4811,
   0x3CF5D7C5, 0x3C0ECA68, 0x3CF59F66, 0x3C104C67, 0x3CF56670, 0x3C11CE0D, 0x3CF52CE3, 0x3C134F59,
   0x3CF4F2BE, 0x3C14D04B, 0x3CF4B802, 0x3C1650E0, 0x3CF47CAF, 0x3C17D119, 0x3CF440C5, 0x3C1950F4,
   0x3CF40445, 0x3C1AD070, 0x3CF3C72E, 0x3C1C4F8D, 0x3CF38981, 0x3C1DCE4A, 0x3CF34B3E, 0x3C1F4CA5,
   0x3CF30C64, 0x3C20CA9E, 0x3CF2CCF5, 0x3C224834, 0x3CF28CEF, 0x3C23C566, 0x3CF24C54, 0x3C254233,
   0x3CF20B24, 0x3C26BE99, 0x3CF1C95F, 0x3C283A99, 0x3CF18704, 0x3C29B631, 0x3CF14414, 0x3C2B3161,
   0x3CF1008F, 0x3C2CAC27, 0x3CF0BC76, 0x3C2E2682, 0x3CF077C8, 0x3C2FA072, 0x3CF03286, 0x3C3119F5,
   0x3CEFECB0, 0x3C32930C, 0x3CEFA646, 0x3C340BB4, 0x3CEF5F48, 0x3C3583ED, 0x3CEF17B6, 0x3C36FBB6,
   0x3CEECF91, 0x3C38730E, 0x3CEE86D8, 0x3C39E9F5, 0x3CEE3D8D, 0x3C3B6069, 0x3CEDF3AE, 0x3C3CD669,
   0x3CEDA93D, 0x3C3E4BF5, 0x3CED5E39, 0x3C3FC10B, 0x3CED12A2, 0x3C4135AB, 0x3CECC67A, 0x3C42A9D4]

/-- ROT2048 (R272), words 256 to 383. -/
def rot2048Words2 : List Nat :=
  [0x3CEC79BF, 0x3C441D85, 0x3CEC2C73, 0x3C4590BD, 0x3CEBDE94, 0x3C47037B, 0x3CEB9025, 0x3C4875BE,
   0x3CEB4124, 0x3C49E785, 0x3CEAF191, 0x3C4B58D0, 0x3CEAA16E, 0x3C4CC99E, 0x3CEA50BA, 0x3C4E39ED,
   0x3CE9FF76, 0x3C4FA9BD, 0x3CE9ADA1, 0x3C51190D, 0x3CE95B3D, 0x3C5287DC, 0x3CE90848, 0x3C53F629,
   0x3CE8B4C3, 0x3C5563F3, 0x3CE860AF, 0x3C56D13A, 0x3CE80C0C, 0x3C583DFC, 0x3CE7B6D9, 0x3C59AA39,
   0x3CE76118, 0x3C5B15F0, 0x3CE70AC7, 0x3C5C811F, 0x3CE6B3E9, 0x3C5DEBC7, 0x3CE65C7C, 0x3C5F55E5,
   0x3CE60480, 0x3C60BF7A, 0x3CE5ABF7, 0x3C622884, 0x3CE552E1, 0x3C639102, 0x3CE4F93D, 0x3C64F8F5,
   0x3CE49F0B, 0x3C66605A, 0x3CE4444D, 0x3C67C731, 0x3CE3E901, 0x3C692D78, 0x3CE38D2A, 0x3C6A9330,
   0x3CE330C5, 0x3C6BF858, 0x3CE2D3D5, 0x3C6D5CEE, 0x3CE27659, 0x3C6EC0F1, 0x3CE21851, 0x3C702461,
   0x3CE1B9BE, 0x3C71873D, 0x3CE15A9F, 0x3C72E984, 0x3CE0FAF5, 0x3C744B35, 0x3CE09AC1, 0x3C75AC50,
   0x3CE03A02, 0x3C770CD3, 0x3CDFD8B8, 0x3C786CBD, 0x3CDF76E5, 0x3C79CC0E, 0x3CDF1488, 0x3C7B2AC6,
   0x3CDEB1A1, 0x3C7C88E2, 0x3CDE4E31, 0x3C7DE662, 0x3CDDEA37, 0x3C7F4346, 0x3CDD85B5, 0x3C804FC6,
   0x3CDD20AA, 0x3C80FD9A, 0x3CDCBB17, 0x3C81AB1F, 0x3CDC54FC, 0x3C825853, 0x3CDBEE58, 0x3C830537,
   0x3CDB872D, 0x3C83B1CB, 0x3CDB1F7B, 0x3C845E0D, 0x3CDAB741, 0x3C8509FD, 0x3CDA4E81, 0x3C85B59C,
   0x3CD9E53A, 0x3C8660E7, 0x3CD97B6C, 0x3C870BE0, 0x3CD91118, 0x3C87B686, 0x3CD8A63F, 0x3C8860D8,
   0x3CD83AE0, 0x3C890AD6, 0x3CD7CEFB, 0x3C89B47F, 0x3CD76291, 0x3C8A5DD3, 0x3CD6F5A3, 0x3C8B06D2,
   0x3CD6882F, 0x3C8BAF7C, 0x3CD61A38, 0x3C8C57CF, 0x3CD5ABBC, 0x3C8CFFCB, 0x3CD53CBD, 0x3C8DA771]

/-- ROT2048 (R272), words 384 to 511. -/
def rot2048Words3 : List Nat :=
  [0x3CD4CD3A, 0x3C8E4EBF, 0x3CD45D33, 0x3C8EF5B5, 0x3CD3ECAA, 0x3C8F9C53, 0x3CD37B9E, 0x3C904299,
   0x3CD30A10, 0x3C90E885, 0x3CD297FF, 0x3C918E19, 0x3CD2256D, 0x3C923352, 0x3CD1B259, 0x3C92D831,
   0x3CD13EC3, 0x3C937CB6, 0x3CD0CAAD, 0x3C9420E0, 0x3CD05615, 0x3C94C4AE, 0x3CCFE0FE, 0x3C956821,
   0x3CCF6B65, 0x3C960B37, 0x3CCEF54D, 0x3C96ADF1, 0x3CCE7EB6, 0x3C97504E, 0x3CCE079F, 0x3C97F24D,
   0x3CCD9009, 0x3C9893EF, 0x3CCD17F4, 0x3C993533, 0x3CCC9F60, 0x3C99D618, 0x3CCC264E, 0x3C9A769E,
   0x3CCBACBF, 0x3C9B16C5, 0x3CCB32B2, 0x3C9BB68D, 0x3CCAB827, 0x3C9C55F4, 0x3CCA3D1F, 0x3C9CF4FB,
   0x3CC9C19B, 0x3C9D93A1, 0x3CC9459A, 0x3C9E31E6, 0x3CC8C91D, 0x3C9ECFC9, 0x3CC84C24, 0x3C9F6D4A,
   0x3CC7CEB0, 0x3CA00A69, 0x3CC750C0, 0x3CA0A725, 0x3CC6D256, 0x3CA1437E, 0x3CC65370, 0x3CA1DF74,
   0x3CC5D411, 0x3CA27B06, 0x3CC55437, 0x3CA31633, 0x3CC4D3E4, 0x3CA3B0FC, 0x3CC45317, 0x3CA44B60,
   0x3CC3D1D1, 0x3CA4E55F, 0x3CC35012, 0x3CA57EF8, 0x3CC2CDDB, 0x3CA6182B, 0x3CC24B2C, 0x3CA6B0F7,
   0x3CC1C805, 0x3CA7495D, 0x3CC14466, 0x3CA7E15B, 0x3CC0C050, 0x3CA878F2, 0x3CC03BC4, 0x3CA91021,
   0x3CBFB6C0, 0x3CA9A6E8, 0x3CBF3147, 0x3CAA3D46, 0x3CBEAB57, 0x3CAAD33B, 0x3CBE24F2, 0x3CAB68C6,
   0x3CBD9E17, 0x3CABFDE8, 0x3CBD16C8, 0x3CAC92A0, 0x3CBC8F04, 0x3CAD26ED, 0x3CBC06CB, 0x3CADBAD0,
   0x3CBB7E1F, 0x3CAE4E47, 0x3CBAF4FF, 0x3CAEE153, 0x3CBA6B6C, 0x3CAF73F3, 0x3CB9E165, 0x3CB00626,
   0x3CB956EC, 0x3CB097EE, 0x3CB8CC01, 0x3CB12948, 0x3CB840A4, 0x3CB1BA35, 0x3CB7B4D5, 0x3CB24AB4,
   0x3CB72894, 0x3CB2DAC5, 0x3CB69BE3, 0x3CB36A68, 0x3CB60EC1, 0x3CB3F99D, 0x3CB5812F, 0x3CB48862]

/-- ROT2048 (R272), words 512 to 639. -/
def rot2048Words4 : List Nat :=
  [0x3CB4F32D, 0x3CB516B8, 0x3CB464BB, 0x3CB5A49E, 0x3CB3D5DA, 0x3CB63214, 0x3CB3468A, 0x3CB6BF1A,
   0x3CB2B6CB, 0x3CB74BAF, 0x3CB2269E, 0x3CB7D7D3, 0x3CB19604, 0x3CB86386, 0x3CB104FB, 0x3CB8EEC7,
   0x3CB07386, 0x3CB97995, 0x3CAFE1A4, 0x3CBA03F2, 0x3CAF4F55, 0x3CBA8DDB, 0x3CAEBC9A, 0x3CBB1752,
   0x3CAE2973, 0x3CBBA055, 0x3CAD95E1, 0x3CBC28E4, 0x3CAD01E4, 0x3CBCB100, 0x3CAC6D7C, 0x3CBD38A7,
   0x3CABD8AA, 0x3CBDBFD9, 0x3CAB436D, 0x3CBE4696, 0x3CAAADC7, 0x3CBECCDE, 0x3CAA17B8, 0x3CBF52B0,
   0x3CA98140, 0x3CBFD80C, 0x3CA8EA5F, 0x3CC05CF2, 0x3CA85316, 0x3CC0E161, 0x3CA7BB65, 0x3CC16559,
   0x3CA7234D, 0x3CC1E8DA, 0x3CA68ACE, 0x3CC26BE3, 0x3CA5F1E8, 0x3CC2EE74, 0x3CA5589B, 0x3CC3708D,
   0x3CA4BEE9, 0x3CC3F22E, 0x3CA424D1, 0x3CC47356, 0x3CA38A54, 0x3CC4F404, 0x3CA2EF72, 0x3CC57439,
   0x3CA2542B, 0x3CC5F3F4, 0x3CA1B880, 0x3CC67335, 0x3CA11C71, 0x3CC6F1FC, 0x3CA08000, 0x3CC77048,
   0x3C9FE32B, 0x3CC7EE18, 0x3C9F45F3, 0x3CC86B6E, 0x3C9EA859, 0x3CC8E848, 0x3C9E0A5D, 0x3CC964A6,
   0x3C9D6C00, 0x3CC9E088, 0x3C9CCD42, 0x3CCA5BED, 0x3C9C2E23, 0x3CCAD6D5, 0x3C9B8EA4, 0x3CCB5141,
   0x3C9AEEC4, 0x3CCBCB2F, 0x3C9A4E86, 0x3CCC449F, 0x3C99ADE7, 0x3CCCBD91, 0x3C990CEB, 0x3CCD3605,
   0x3C986B8F, 0x3CCDADFA, 0x3C97C9D6, 0x3CCE2570, 0x3C9727BF, 0x3CCE9C68, 0x3C96854B, 0x3CCF12DF,
   0x3C95E27A, 0x3CCF88D7, 0x3C953F4D, 0x3CCFFE50, 0x3C949BC3, 0x3CD07347, 0x3C93F7DE, 0x3CD0E7BE,
   0x3C93539D, 0x3CD15BB5, 0x3C92AF02, 0x3CD1CF2A, 0x3C920A0C, 0x3CD2421E, 0x3C9164BC, 0x3CD2B490,
   0x3C90BF13, 0x3CD32680, 0x3C901910, 0x3CD397EE, 0x3C8F72B4, 0x3CD408D9, 0x3C8ECC00, 0x3CD47941]

/-- ROT2048 (R272), words 640 to 767. -/
def rot2048Words5 : List Nat :=
  [0x3C8E24F3, 0x3CD4E927, 0x3C8D7D8F, 0x3CD55889, 0x3C8CD5D4, 0x3CD5C767, 0x3C8C2DC2, 0x3CD635C2,
   0x3C8B8559, 0x3CD6A399, 0x3C8ADC9B, 0x3CD710EB, 0x3C8A3386, 0x3CD77DB8, 0x3C898A1D, 0x3CD7EA01,
   0x3C88E05E, 0x3CD855C4, 0x3C88364B, 0x3CD8C102, 0x3C878BE4, 0x3CD92BBA, 0x3C86E12A, 0x3CD995EC,
   0x3C86361C, 0x3CD9FF98, 0x3C858ABC, 0x3CDA68BE, 0x3C84DF09, 0x3CDAD15C, 0x3C843304, 0x3CDB3974,
   0x3C8386AE, 0x3CDBA105, 0x3C82DA06, 0x3CDC080E, 0x3C822D0E, 0x3CDC6E8F, 0x3C817FC5, 0x3CDCD489,
   0x3C80D22D, 0x3CDD39FA, 0x3C802445, 0x3CDD9EE3, 0x3C7EEC1C, 0x3CDE0343, 0x3C7D8F11, 0x3CDE671A,
   0x3C7C3169, 0x3CDECA68, 0x3C7AD326, 0x3CDF2D2C, 0x3C797449, 0x3CDF8F67, 0x3C7814D1, 0x3CDFF118,
   0x3C76B4C0, 0x3CE0523E, 0x3C755417, 0x3CE0B2DB, 0x3C73F2D7, 0x3CE112ED, 0x3C729100, 0x3CE17274,
   0x3C712E94, 0x3CE1D16F, 0x3C6FCB93, 0x3CE22FE0, 0x3C6E67FE, 0x3CE28DC5, 0x3C6D03D6, 0x3CE2EB1E,
   0x3C6B9F1C, 0x3CE347EC, 0x3C6A39D0, 0x3CE3A42D, 0x3C68D3F4, 0x3CE3FFE1, 0x3C676D88, 0x3CE45B0A,
   0x3C66068E, 0x3CE4B5A5, 0x3C649F05, 0x3CE50FB3, 0x3C6336F0, 0x3CE56934, 0x3C61CE4E, 0x3CE5C227,
   0x3C606522, 0x3CE61A8D, 0x3C5EFB6A, 0x3CE67264, 0x3C5D912A, 0x3CE6C9AE, 0x3C5C2660, 0x3CE72069,
   0x3C5ABB0F, 0x3CE77695, 0x3C594F37, 0x3CE7CC33, 0x3C57E2D8, 0x3CE82142, 0x3C5675F5, 0x3CE875C2,
   0x3C55088D, 0x3CE8C9B2, 0x3C539AA2, 0x3CE91D12, 0x3C522C34, 0x3CE96FE3, 0x3C50BD45, 0x3CE9C224,
   0x3C4F4DD5, 0x3CEA13D5, 0x3C4DDDE5, 0x3CEA64F5, 0x3C4C6D76, 0x3CEAB585, 0x3C4AFC89, 0x3CEB0584,
   0x3C498B1F, 0x3CEB54F1, 0x3C481938, 0x3CEBA3CE, 0x3C46A6D6, 0x3CEBF21A, 0x3C4533FA, 0x3CEC3FD3]

/-- ROT2048 (R272), words 768 to 895. -/
def rot2048Words6 : List Nat :=
  [0x3C43C0A4, 0x3CEC8CFC, 0x3C424CD5, 0x3CECD992, 0x3C40D88E, 0x3CED2596, 0x3C3F63D0, 0x3CED7108,
   0x3C3DEE9D, 0x3CEDBBE7, 0x3C3C78F4, 0x3CEE0634, 0x3C3B02D6, 0x3CEE4FEE, 0x3C398C46, 0x3CEE9914,
   0x3C381543, 0x3CEEE1A8, 0x3C369DCE, 0x3CEF29A8, 0x3C3525E9, 0x3CEF7115, 0x3C33AD94, 0x3CEFB7EE,
   0x3C3234D0, 0x3CEFFE34, 0x3C30BB9F, 0x3CF043E5, 0x3C2F4200, 0x3CF08902, 0x3C2DC7F5, 0x3CF0CD8A,
   0x3C2C4D7F, 0x3CF1117F, 0x3C2AD29F, 0x3CF154DE, 0x3C295755, 0x3CF197A8, 0x3C27DBA3, 0x3CF1D9DE,
   0x3C265F89, 0x3CF21B7E, 0x3C24E309, 0x3CF25C89, 0x3C236623, 0x3CF29CFF, 0x3C21E8D8, 0x3CF2DCDE,
   0x3C206B29, 0x3CF31C28, 0x3C1EED18, 0x3CF35ADC, 0x3C1D6EA4, 0x3CF398FA, 0x3C1BEFCF, 0x3CF3D682,
   0x3C1A709A, 0x3CF41373, 0x3C18F106, 0x3CF44FCE, 0x3C177113, 0x3CF48B92, 0x3C15F0C3, 0x3CF4C6BF,
   0x3C147017, 0x3CF50155, 0x3C12EF0F, 0x3CF53B54, 0x3C116DAC, 0x3CF574BC, 0x3C0FEBF0, 0x3CF5AD8C,
   0x3C0E69DB, 0x3CF5E5C5, 0x3C0CE76D, 0x3CF61D66, 0x3C0B64AA, 0x3CF6546F, 0x3C09E190, 0x3CF68AE1,
   0x3C085E21, 0x3CF6C0BA, 0x3C06DA5D, 0x3CF6F5FB, 0x3C055647, 0x3CF72AA4, 0x3C03D1DF, 0x3CF75EB4,
   0x3C024D25, 0x3CF7922C, 0x3C00C81B, 0x3CF7C50B, 0x3BFE8582, 0x3CF7F751, 0x3BFB7A31, 0x3CF828FE,
   0x3BF86E46, 0x3CF85A12, 0x3BF561C1, 0x3CF88A8D, 0x3BF254A5, 0x3CF8BA6E, 0x3BEF46F4, 0x3CF8E9B7,
   0x3BEC38AF, 0x3CF91865, 0x3BE929D8, 0x3CF9467A, 0x3BE61A71, 0x3CF973F5, 0x3BE30A7C, 0x3CF9A0D7,
   0x3BDFF9FC, 0x3CF9CD1E, 0x3BDCE8F1, 0x3CF9F8CB, 0x3BD9D75E, 0x3CFA23DE, 0x3BD6C544, 0x3CFA4E57,
   0x3BD3B2A6, 0x3CFA7835, 0x3BD09F86, 0x3CFAA179, 0x3BCD8BE4, 0x3CFACA22, 0x3BCA77C4, 0x3CFAF231]

/-- ROT2048 (R272), words 896 to 1023. -/
def rot2048Words7 : List Nat :=
  [0x3BC76328, 0x3CFB19A4, 0x3BC44E10, 0x3CFB407D, 0x3BC1387F, 0x3CFB66BB, 0x3BBE2276, 0x3CFB8C5E,
   0x3BBB0BF9, 0x3CFBB166, 0x3BB7F508, 0x3CFBD5D2, 0x3BB4DDA6, 0x3CFBF9A3, 0x3BB1C5D4, 0x3CFC1CD9,
   0x3BAEAD94, 0x3CFC3F73, 0x3BAB94E9, 0x3CFC6171, 0x3BA87BD4, 0x3CFC82D4, 0x3BA56257, 0x3CFCA39B,
   0x3BA24874, 0x3CFCC3C6, 0x3B9F2E2C, 0x3CFCE355, 0x3B9C1383, 0x3CFD0249, 0x3B98F879, 0x3CFD20A0,
   0x3B95DD11, 0x3CFD3E5B, 0x3B92C14D, 0x3CFD5B7A, 0x3B8FA52E, 0x3CFD77FC, 0x3B8C88B6, 0x3CFD93E2,
   0x3B896BE8, 0x3CFDAF2C, 0x3B864EC5, 0x3CFDC9DA, 0x3B83314F, 0x3CFDE3EA, 0x3B801388, 0x3CFDFD5E,
   0x3B79EAE5, 0x3CFE1636, 0x3B73AE1F, 0x3CFE2E71, 0x3B6D70C3, 0x3CFE460F, 0x3B6732D4, 0x3CFE5D10,
   0x3B60F457, 0x3CFE7374, 0x3B5AB54F, 0x3CFE893B, 0x3B5475C0, 0x3CFE9E65, 0x3B4E35AE, 0x3CFEB2F2,
   0x3B47F51D, 0x3CFEC6E3, 0x3B41B410, 0x3CFEDA35, 0x3B3B728C, 0x3CFEECEB, 0x3B353095, 0x3CFEFF04,
   0x3B2EEE2D, 0x3CFF107F, 0x3B28AB5A, 0x3CFF215C, 0x3B22681F, 0x3CFF319D, 0x3B1C247F, 0x3CFF4140,
   0x3B15E07F, 0x3CFF5045, 0x3B0F9C23, 0x3CFF5EAE, 0x3B09576E, 0x3CFF6C78, 0x3B031265, 0x3CFF79A5,
   0x3AF99A15, 0x3CFF8634, 0x3AED0EC6, 0x3CFF9226, 0x3AE082E5, 0x3CFF9D7A, 0x3AD3F679, 0x3CFFA831,
   0x3AC7698B, 0x3CFFB24A, 0x3ABADC22, 0x3CFFBBC5, 0x3AAE4E45, 0x3CFFC4A2, 0x3AA1BFFD, 0x3CFFCCE1,
   0x3A953151, 0x3CFFD483, 0x3A88A249, 0x3CFFDB87, 0x3A7825DA, 0x3CFFE1ED, 0x3A5F0688, 0x3CFFE7B5,
   0x3A45E6AD, 0x3CFFECE0, 0x3A2CC658, 0x3CFFF16C, 0x3A13A599, 0x3CFFF55B, 0x39F508FC, 0x3CFFF8AC,
   0x39C2C62F, 0x3CFFFB5E, 0x399082EA, 0x3CFFFD73, 0x393C7E99, 0x3CFFFEEA, 0x38AFEDD1, 0x3CFFFFC4]

/-- The whole table ROT2048 (R272), flattened. -/
def rot2048Words : List Nat :=
  rot2048Words0 ++ rot2048Words1 ++ rot2048Words2 ++ rot2048Words3 ++ rot2048Words4 ++ rot2048Words5 ++ rot2048Words6 ++ rot2048Words7

/-- A flattened listing of `re im` pairs as complex values. -/
def complexPairs : List Nat → List Cplx
  | re :: im :: rest => ⟨BitVec.ofNat 32 re, BitVec.ofNat 32 im⟩ :: complexPairs rest
  | _ => []

/-- The rotation table of an MDCT slot (R44, R272). -/
def rotTable (m : Slot) : List Cplx :=
  match m with
  | .m0 => complexPairs rot256Words
  | .m1 => complexPairs rot2048Words

end Sys2Proof.Machine
end

