-- ==== Sys2Proof/Machine/Mdct.lean ====
section
/-! DEFINITION. The MDCT stage: `Imdct` (R203, R204), `Mdct` (R208) and the commands `IMDCT` (R202) and `MDCT` (R207), all of
`44_mdct.md`. `M` is `mdctSize m`. -/

namespace Sys2Proof.Machine

/-- The result of a transform of a slot: the output array, and what `mdct[m].Z` and the work buffer are left holding. -/
structure MdctResult where
  out : List F32
  z : List Cplx
  work : List Cplx
  deriving DecidableEq, Repr

/-- A rotation whose two outputs are stored imaginary part first (R203). -/
def rotateSwapped (x1 x2 : F32) (r : Cplx) : Cplx :=
  let y := cm x1 x2 r.re r.im
  ⟨y.2, y.1⟩

/-- A rotation whose two outputs are stored real part first (R208). -/
def rotateNatural (x1 x2 : F32) (r : Cplx) : Cplx :=
  let y := cm x1 x2 r.re r.im
  ⟨y.1, y.2⟩

/-- Step 1 of `Imdct` (R203): pre-rotation of `X[2k]` and `X[M/2 - 1 - 2k]`. -/
def imdctPre (M : Nat) (rt : List Cplx) (X : List F32) : List Cplx :=
  (List.range (M / 4)).map fun k => rotateSwapped (elemF X (2 * k)) (elemF X (M / 2 - 1 - 2 * k)) (elemC rt k)

/-- Step 3 of `Imdct` (R203): post-rotation, data arguments imaginary part first. -/
def imdctPost (M : Nat) (rt Z : List Cplx) : List Cplx :=
  (List.range (M / 4)).map fun k => rotateSwapped (elemC Z k).im (elemC Z k).re (elemC rt k)

/-- Output `p` of `Reorder(Z)` (R204): quarter `p / (M/4)`, place `n = p % (M/4)` in it, by the compact table of the rule. -/
def reorderAt (M : Nat) (Z : List Cplx) (p : Nat) : F32 :=
  let n := p % (M / 4)
  let up := elemC Z (M / 8 + n / 2)
  let low := elemC Z (n / 2)
  let downHalf := elemC Z (M / 8 - 1 - (n - 1) / 2)
  let down := elemC Z (M / 4 - 1 - (n - 1) / 2)
  match p / (M / 4) with
  | 0 => if n % 2 = 0 then up.im else fneg downHalf.re
  | 1 => if n % 2 = 0 then low.re else fneg down.im
  | 2 => if n % 2 = 0 then up.re else fneg downHalf.im
  | _ => if n % 2 = 0 then fneg low.im else down.re

/-- `Reorder(Z)` (R204). -/
def reorder (M : Nat) (Z : List Cplx) : List F32 := (List.range M).map (reorderAt M Z)

/-- `Imdct(m, X)` (R203) with the context that slot `m` owns. -/
def imdct (m : Slot) (c : Context) (X : List F32) : MdctResult :=
  let fft := cfftRun c (imdctPre (mdctSize m) (rotTable m) X) .pos
  let z := imdctPost (mdctSize m) (rotTable m) fft.1
  { out := reorder (mdctSize m) z, z := z, work := fft.2 }

/-- `SC = F32(M)` (R208). -/
def mdctScale : Slot → F32
  | .m0 => 0x43800000
  | .m1 => 0x45000000

/-- The rotated value scaled by `SC` (R208). -/
def scaleC (sc : F32) (z : Cplx) : Cplx := ⟨fmul z.re sc, fmul z.im sc⟩

/-- Step 1 of `Mdct` (R208), the element `Z[k]`, `k` in `[0, M/8)`. -/
def mdctFoldLow (M : Nat) (sc : F32) (rt : List Cplx) (x : List F32) (k : Nat) : Cplx :=
  let n := 2 * k
  let ur := fadd (elemF x (M - M / 4 - 1 - n)) (elemF x (M - M / 4 + n))
  let ui := fsub (elemF x (M / 4 + n)) (elemF x (M / 4 - 1 - n))
  scaleC sc (rotateNatural ur ui (elemC rt k))

/-- Step 1 of `Mdct` (R208), the element `Z[k + M/8]`, `k` in `[0, M/8)`. -/
def mdctFoldHigh (M : Nat) (sc : F32) (rt : List Cplx) (x : List F32) (k : Nat) : Cplx :=
  let n := 2 * k
  let vr := fsub (elemF x (M / 2 - 1 - n)) (elemF x n)
  let vi := fadd (elemF x (M / 2 + n)) (elemF x (M - 1 - n))
  scaleC sc (rotateNatural vr vi (elemC rt (k + M / 8)))

/-- Step 1 of `Mdct` (R208): fold and pre-rotate. -/
def mdctPre (M : Nat) (sc : F32) (rt : List Cplx) (x : List F32) : List Cplx :=
  (List.range (M / 8)).map (mdctFoldLow M sc rt x) ++ (List.range (M / 8)).map (mdctFoldHigh M sc rt x)

/-- Step 3 of `Mdct` (R208), coefficient `q`: `X[2k] = fneg(a)`, `X[M/2 - 1 - 2k] = b`. -/
def mdctPostAt (M : Nat) (rt Z : List Cplx) (q : Nat) : F32 :=
  if q % 2 = 0 then fneg (rotateNatural (elemC Z (q / 2)).re (elemC Z (q / 2)).im (elemC rt (q / 2))).re
  else
    let k := (M / 2 - 1 - q) / 2
    (rotateNatural (elemC Z k).re (elemC Z k).im (elemC rt k)).im

/-- `Mdct(m, x)` (R208) with the context that slot `m` owns. -/
def mdct (m : Slot) (c : Context) (x : List F32) : MdctResult :=
  let fft := cfftRun c (mdctPre (mdctSize m) (mdctScale m) (rotTable m) x) .neg
  { out := (List.range (mdctSize m / 2)).map (mdctPostAt (mdctSize m) (rotTable m) fft.1), z := fft.1, work := fft.2 }

/-- The scratch a transform of slot `m` leaves behind (R43, R44). -/
def State.setScratch (s : State) (m : Slot) (r : MdctResult) : State := (s.setZ m r.z).setWork (slotCtx m) r.work

/-- The effect of `IMDCT` (R202). -/
def imdctEffect (m : Slot) (src dst : Word) (s : State) : State :=
  let r := imdct m (s.ctx (slotCtx m)) (s.mem.readWords src.toNat (mdctSize m / 2))
  (s.storeWords dst r.out).setScratch m r

/-- `IMDCT mK, @SRC, @DST` (R202). -/
def execImdct (m : Slot) (src dst : Word) (s : State) : Host.Outcome State Fault Refusal :=
  s.perform (.imdct m src dst) (imdctEffect m src dst)

/-- The effect of `MDCT` (R207). -/
def mdctEffect (m : Slot) (src dst : Word) (s : State) : State :=
  let r := mdct m (s.ctx (slotCtx m)) (s.mem.readWords src.toNat (mdctSize m))
  (s.storeWords dst r.out).setScratch m r

/-- `MDCT mK, @SRC, @DST` (R207). -/
def execMdct (m : Slot) (src dst : Word) (s : State) : Host.Outcome State Fault Refusal :=
  s.perform (.mdct m src dst) (mdctEffect m src dst)

end Sys2Proof.Machine
end

