-- ==== Sys2Proof/Machine/RomWindow.lean ====
section
/-! DEFINITION. The four window tables (R290 to R294, `51_window_tables.md`), word for word from the listings, which the
spec makes normative. Each table is the rising half of a symmetric window; index 0 is the smallest value. -/

namespace Sys2Proof.Machine

/-- SINE_LONG (R290), words 0 to 127. -/
def sineLongWords0 : List Nat :=
  [0x3A490FD9, 0x3B16CBDB, 0x3B7B53A9, 0x3BAFEDA8, 0x3BE23160, 0x3C0A3A7B, 0x3C235C30, 0x3C3C7DCC,
   0x3C559F4C, 0x3C6EC0AA, 0x3C83F0F2, 0x3C90817A, 0x3C9D11EC, 0x3CA9A246, 0x3CB63286, 0x3CC2C2A9,
   0x3CCF52AF, 0x3CDBE294, 0x3CE87258, 0x3CF501F8, 0x3D00C8B9, 0x3D071062, 0x3D0D57F6, 0x3D139F75,
   0x3D19E6DD, 0x3D202E2D, 0x3D267564, 0x3D2CBC82, 0x3D330385, 0x3D394A6C, 0x3D3F9137, 0x3D45D7E4,
   0x3D4C1E73, 0x3D5264E2, 0x3D58AB31, 0x3D5EF15F, 0x3D65376A, 0x3D6B7D51, 0x3D71C315, 0x3D7808B3,
   0x3D7E4E2B, 0x3D8249BE, 0x3D856C52, 0x3D888ED2, 0x3D8BB13C, 0x3D8ED391, 0x3D91F5D0, 0x3D9517F9,
   0x3D983A0A, 0x3D9B5C05, 0x3D9E7DE7, 0x3DA19FB0, 0x3DA4C161, 0x3DA7E2F8, 0x3DAB0476, 0x3DAE25D9,
   0x3DB14721, 0x3DB4684E, 0x3DB7895F, 0x3DBAAA54, 0x3DBDCB2C, 0x3DC0EBE6, 0x3DC40C83, 0x3DC72D02,
   0x3DCA4D62, 0x3DCD6DA3, 0x3DD08DC4, 0x3DD3ADC5, 0x3DD6CDA5, 0x3DD9ED64, 0x3DDD0D02, 0x3DE02C7D,
   0x3DE34BD6, 0x3DE66B0C, 0x3DE98A1F, 0x3DECA90D, 0x3DEFC7D7, 0x3DF2E67C, 0x3DF604FB, 0x3DF92354,
   0x3DFC4187, 0x3DFF5F94, 0x3E013EBC, 0x3E02CD9B, 0x3E045C65, 0x3E05EB1B, 0x3E0779BC, 0x3E090848,
   0x3E0A96BF, 0x3E0C2521, 0x3E0DB36D, 0x3E0F41A4, 0x3E10CFC4, 0x3E125DCE, 0x3E13EBC1, 0x3E15799E,
   0x3E170763, 0x3E189511, 0x3E1A22A8, 0x3E1BB027, 0x3E1D3D8E, 0x3E1ECADD, 0x3E205813, 0x3E21E530,
   0x3E237235, 0x3E24FF20, 0x3E268BF2, 0x3E2818AA, 0x3E29A548, 0x3E2B31CC, 0x3E2CBE36, 0x3E2E4A85,
   0x3E2FD6B9, 0x3E3162D2, 0x3E32EECF, 0x3E347AB2, 0x3E360678, 0x3E379222, 0x3E391DB0, 0x3E3AA921,
   0x3E3C3476, 0x3E3DBFAD, 0x3E3F4AC7, 0x3E40D5C4, 0x3E4260A3, 0x3E43EB64, 0x3E457607, 0x3E47008B]

/-- SINE_LONG (R290), words 128 to 255. -/
def sineLongWords1 : List Nat :=
  [0x3E488AF1, 0x3E4A1538, 0x3E4B9F5F, 0x3E4D2967, 0x3E4EB350, 0x3E503D19, 0x3E51C6C1, 0x3E535049,
   0x3E54D9B1, 0x3E5662F8, 0x3E57EC1D, 0x3E597522, 0x3E5AFE05, 0x3E5C86C6, 0x3E5E0F65, 0x3E5F97E2,
   0x3E61203C, 0x3E62A874, 0x3E643089, 0x3E65B87A, 0x3E674048, 0x3E68C7F3, 0x3E6A4F79, 0x3E6BD6DC,
   0x3E6D5E1A, 0x3E6EE533, 0x3E706C28, 0x3E71F2F7, 0x3E7379A1, 0x3E750026, 0x3E768685, 0x3E780CBE,
   0x3E7992D0, 0x3E7B18BC, 0x3E7C9E82, 0x3E7E2420, 0x3E7FA998, 0x3E809774, 0x3E815A08, 0x3E821C88,
   0x3E82DEF4, 0x3E83A14C, 0x3E84638F, 0x3E8525BF, 0x3E85E7D9, 0x3E86A9DF, 0x3E876BD0, 0x3E882DAD,
   0x3E88EF74, 0x3E89B126, 0x3E8A72C3, 0x3E8B344B, 0x3E8BF5BD, 0x3E8CB71A, 0x3E8D7861, 0x3E8E3992,
   0x3E8EFAAD, 0x3E8FBBB2, 0x3E907CA1, 0x3E913D79, 0x3E91FE3C, 0x3E92BEE7, 0x3E937F7D, 0x3E943FFB,
   0x3E950062, 0x3E95C0B3, 0x3E9680EC, 0x3E97410E, 0x3E980119, 0x3E98C10D, 0x3E9980E9, 0x3E9A40AD,
   0x3E9B0059, 0x3E9BBFEE, 0x3E9C7F6A, 0x3E9D3ECF, 0x3E9DFE1B, 0x3E9EBD4F, 0x3E9F7C6A, 0x3EA03B6D,
   0x3EA0FA57, 0x3EA1B928, 0x3EA277E0, 0x3EA3367F, 0x3EA3F505, 0x3EA4B372, 0x3EA571C5, 0x3EA62FFF,
   0x3EA6EE1F, 0x3EA7AC25, 0x3EA86A12, 0x3EA927E5, 0x3EA9E59D, 0x3EAAA33B, 0x3EAB60BF, 0x3EAC1E29,
   0x3EACDB78, 0x3EAD98AC, 0x3EAE55C6, 0x3EAF12C5, 0x3EAFCFA8, 0x3EB08C71, 0x3EB1491E, 0x3EB205B0,
   0x3EB2C227, 0x3EB37E82, 0x3EB43AC1, 0x3EB4F6E5, 0x3EB5B2EC, 0x3EB66ED8, 0x3EB72AA7, 0x3EB7E65B,
   0x3EB8A1F1, 0x3EB95D6C, 0x3EBA18CA, 0x3EBAD40B, 0x3EBB8F2F, 0x3EBC4A36, 0x3EBD0521, 0x3EBDBFEE,
   0x3EBE7A9E, 0x3EBF3530, 0x3EBFEFA5, 0x3EC0A9FD, 0x3EC16437, 0x3EC21E53, 0x3EC2D851, 0x3EC39231]

/-- SINE_LONG (R290), words 256 to 383. -/
def sineLongWords2 : List Nat :=
  [0x3EC44BF2, 0x3EC50596, 0x3EC5BF1B, 0x3EC67882, 0x3EC731CA, 0x3EC7EAF3, 0x3EC8A3FD, 0x3EC95CE9,
   0x3ECA15B5, 0x3ECACE63, 0x3ECB86F1, 0x3ECC3F60, 0x3ECCF7AF, 0x3ECDAFDE, 0x3ECE67EE, 0x3ECF1FDE,
   0x3ECFD7AE, 0x3ED08F5E, 0x3ED146EE, 0x3ED1FE5E, 0x3ED2B5AD, 0x3ED36CDB, 0x3ED423EA, 0x3ED4DAD7,
   0x3ED591A4, 0x3ED6484F, 0x3ED6FEDA, 0x3ED7B543, 0x3ED86B8B, 0x3ED921B2, 0x3ED9D7B7, 0x3EDA8D9B,
   0x3EDB435D, 0x3EDBF8FD, 0x3EDCAE7C, 0x3EDD63D8, 0x3EDE1912, 0x3EDECE2A, 0x3EDF831F, 0x3EE037F2,
   0x3EE0ECA3, 0x3EE1A130, 0x3EE2559B, 0x3EE309E3, 0x3EE3BE08, 0x3EE4720A, 0x3EE525E9, 0x3EE5D9A4,
   0x3EE68D3C, 0x3EE740B1, 0x3EE7F401, 0x3EE8A72E, 0x3EE95A37, 0x3EEA0D1C, 0x3EEABFDD, 0x3EEB727A,
   0x3EEC24F3, 0x3EECD747, 0x3EED8976, 0x3EEE3B81, 0x3EEEED67, 0x3EEF9F28, 0x3EF050C5, 0x3EF1023C,
   0x3EF1B38E, 0x3EF264BB, 0x3EF315C2, 0x3EF3C6A4, 0x3EF47761, 0x3EF527F8, 0x3EF5D868, 0x3EF688B3,
   0x3EF738D8, 0x3EF7E8D7, 0x3EF898B0, 0x3EF94862, 0x3EF9F7EE, 0x3EFAA753, 0x3EFB5692, 0x3EFC05AA,
   0x3EFCB49B, 0x3EFD6365, 0x3EFE1207, 0x3EFEC083, 0x3EFF6ED8, 0x3F000E82, 0x3F006585, 0x3F00BC74,
   0x3F01134F, 0x3F016A17, 0x3F01C0CA, 0x3F021769, 0x3F026DF4, 0x3F02C46B, 0x3F031ACE, 0x3F03711D,
   0x3F03C757, 0x3F041D7E, 0x3F04738F, 0x3F04C98D, 0x3F051F75, 0x3F05754A, 0x3F05CB0A, 0x3F0620B5,
   0x3F06764B, 0x3F06CBCD, 0x3F07213A, 0x3F077692, 0x3F07CBD5, 0x3F082103, 0x3F08761C, 0x3F08CB20,
   0x3F092010, 0x3F0974E9, 0x3F09C9AE, 0x3F0A1E5E, 0x3F0A72F8, 0x3F0AC77D, 0x3F0B1BEC, 0x3F0B7046,
   0x3F0BC48B, 0x3F0C18BA, 0x3F0C6CD3, 0x3F0CC0D7, 0x3F0D14C5, 0x3F0D689D, 0x3F0DBC5F, 0x3F0E100C]

/-- SINE_LONG (R290), words 384 to 511. -/
def sineLongWords3 : List Nat :=
  [0x3F0E63A2, 0x3F0EB723, 0x3F0F0A8E, 0x3F0F5DE2, 0x3F0FB121, 0x3F100449, 0x3F10575B, 0x3F10AA57,
   0x3F10FD3D, 0x3F11500C, 0x3F11A2C5, 0x3F11F567, 0x3F1247F3, 0x3F129A68, 0x3F12ECC7, 0x3F133F0F,
   0x3F139140, 0x3F13E35B, 0x3F14355E, 0x3F14874B, 0x3F14D921, 0x3F152AE0, 0x3F157C88, 0x3F15CE19,
   0x3F161F93, 0x3F1670F6, 0x3F16C241, 0x3F171376, 0x3F176493, 0x3F17B598, 0x3F180687, 0x3F18575D,
   0x3F18A81D, 0x3F18F8C4, 0x3F194955, 0x3F1999CD, 0x3F19EA2E, 0x3F1A3A77, 0x3F1A8AA8, 0x3F1ADAC2,
   0x3F1B2AC3, 0x3F1B7AAD, 0x3F1BCA7F, 0x3F1C1A38, 0x3F1C69DA, 0x3F1CB963, 0x3F1D08D5, 0x3F1D582E,
   0x3F1DA76F, 0x3F1DF697, 0x3F1E45A7, 0x3F1E949F, 0x3F1EE37E, 0x3F1F3245, 0x3F1F80F3, 0x3F1FCF89,
   0x3F201E06, 0x3F206C6A, 0x3F20BAB6, 0x3F2108E9, 0x3F215703, 0x3F21A504, 0x3F21F2EC, 0x3F2240BB,
   0x3F228E71, 0x3F22DC0E, 0x3F232992, 0x3F2376FD, 0x3F23C44F, 0x3F241187, 0x3F245EA6, 0x3F24ABAC,
   0x3F24F898, 0x3F25456B, 0x3F259224, 0x3F25DEC4, 0x3F262B4A, 0x3F2677B7, 0x3F26C40A, 0x3F271043,
   0x3F275C62, 0x3F27A868, 0x3F27F454, 0x3F284026, 0x3F288BDE, 0x3F28D77C, 0x3F292300, 0x3F296E69,
   0x3F29B9B9, 0x3F2A04EF, 0x3F2A500A, 0x3F2A9B0B, 0x3F2AE5F2, 0x3F2B30BE, 0x3F2B7B70, 0x3F2BC608,
   0x3F2C1085, 0x3F2C5AE7, 0x3F2CA52F, 0x3F2CEF5D, 0x3F2D396F, 0x3F2D8367, 0x3F2DCD44, 0x3F2E1707,
   0x3F2E60AE, 0x3F2EAA3B, 0x3F2EF3AD, 0x3F2F3D03, 0x3F2F863F, 0x3F2FCF60, 0x3F301865, 0x3F306150,
   0x3F30AA1F, 0x3F30F2D3, 0x3F313B6B, 0x3F3183E9, 0x3F31CC4B, 0x3F321491, 0x3F325CBC, 0x3F32A4CC,
   0x3F32ECC0, 0x3F333498, 0x3F337C55, 0x3F33C3F6, 0x3F340B7B, 0x3F3452E5, 0x3F349A33, 0x3F34E165]

/-- SINE_LONG (R290), words 512 to 639. -/
def sineLongWords4 : List Nat :=
  [0x3F35287B, 0x3F356F75, 0x3F35B653, 0x3F35FD15, 0x3F3643BB, 0x3F368A45, 0x3F36D0B3, 0x3F371704,
   0x3F375D3A, 0x3F37A353, 0x3F37E950, 0x3F382F30, 0x3F3874F4, 0x3F38BA9C, 0x3F390027, 0x3F394595,
   0x3F398AE7, 0x3F39D01D, 0x3F3A1535, 0x3F3A5A31, 0x3F3A9F10, 0x3F3AE3D3, 0x3F3B2879, 0x3F3B6D01,
   0x3F3BB16D, 0x3F3BF5BC, 0x3F3C39EE, 0x3F3C7E03, 0x3F3CC1FB, 0x3F3D05D6, 0x3F3D4993, 0x3F3D8D34,
   0x3F3DD0B7, 0x3F3E141D, 0x3F3E5766, 0x3F3E9A91, 0x3F3EDD9F, 0x3F3F208F, 0x3F3F6362, 0x3F3FA617,
   0x3F3FE8AF, 0x3F402B2A, 0x3F406D86, 0x3F40AFC5, 0x3F40F1E7, 0x3F4133EA, 0x3F4175D0, 0x3F41B798,
   0x3F41F942, 0x3F423ACE, 0x3F427C3C, 0x3F42BD8C, 0x3F42FEBE, 0x3F433FD2, 0x3F4380C8, 0x3F43C1A0,
   0x3F44025A, 0x3F4442F5, 0x3F448372, 0x3F44C3D1, 0x3F450411, 0x3F454433, 0x3F458437, 0x3F45C41C,
   0x3F4603E3, 0x3F46438B, 0x3F468315, 0x3F46C280, 0x3F4701CC, 0x3F4740FA, 0x3F478008, 0x3F47BEF9,
   0x3F47FDCA, 0x3F483C7C, 0x3F487B10, 0x3F48B985, 0x3F48F7DA, 0x3F493611, 0x3F497429, 0x3F49B222,
   0x3F49EFFB, 0x3F4A2DB6, 0x3F4A6B51, 0x3F4AA8CD, 0x3F4AE62A, 0x3F4B2367, 0x3F4B6085, 0x3F4B9D84,
   0x3F4BDA63, 0x3F4C1723, 0x3F4C53C4, 0x3F4C9045, 0x3F4CCCA6, 0x3F4D08E8, 0x3F4D450A, 0x3F4D810D,
   0x3F4DBCF0, 0x3F4DF8B3, 0x3F4E3456, 0x3F4E6FDA, 0x3F4EAB3E, 0x3F4EE681, 0x3F4F21A5, 0x3F4F5CA9,
   0x3F4F978D, 0x3F4FD252, 0x3F500CF6, 0x3F504779, 0x3F5081DD, 0x3F50BC21, 0x3F50F644, 0x3F513047,
   0x3F516A2A, 0x3F51A3ED, 0x3F51DD8F, 0x3F521711, 0x3F525073, 0x3F5289B4, 0x3F52C2D5, 0x3F52FBD5,
   0x3F5334B5, 0x3F536D74, 0x3F53A612, 0x3F53DE90, 0x3F5416ED, 0x3F544F2A, 0x3F548745, 0x3F54BF40]

/-- SINE_LONG (R290), words 640 to 767. -/
def sineLongWords5 : List Nat :=
  [0x3F54F71A, 0x3F552ED4, 0x3F55666C, 0x3F559DE3, 0x3F55D53A, 0x3F560C70, 0x3F564384, 0x3F567A78,
   0x3F56B14A, 0x3F56E7FB, 0x3F571E8C, 0x3F5754FB, 0x3F578B48, 0x3F57C175, 0x3F57F780, 0x3F582D6A,
   0x3F586333, 0x3F5898DA, 0x3F58CE60, 0x3F5903C5, 0x3F593908, 0x3F596E29, 0x3F59A329, 0x3F59D807,
   0x3F5A0CC4, 0x3F5A415F, 0x3F5A75D9, 0x3F5AAA31, 0x3F5ADE67, 0x3F5B127B, 0x3F5B466E, 0x3F5B7A3E,
   0x3F5BADED, 0x3F5BE17A, 0x3F5C14E6, 0x3F5C482F, 0x3F5C7B56, 0x3F5CAE5B, 0x3F5CE13E, 0x3F5D13FF,
   0x3F5D469E, 0x3F5D791B, 0x3F5DAB76, 0x3F5DDDAF, 0x3F5E0FC5, 0x3F5E41B9, 0x3F5E738B, 0x3F5EA53A,
   0x3F5ED6C8, 0x3F5F0833, 0x3F5F397B, 0x3F5F6AA1, 0x3F5F9BA5, 0x3F5FCC86, 0x3F5FFD44, 0x3F602DE0,
   0x3F605E5A, 0x3F608EB0, 0x3F60BEE5, 0x3F60EEF6, 0x3F611EE5, 0x3F614EB1, 0x3F617E5B, 0x3F61ADE1,
   0x3F61DD45, 0x3F620C86, 0x3F623BA4, 0x3F626AA0, 0x3F629978, 0x3F62C82D, 0x3F62F6C0, 0x3F63252F,
   0x3F63537B, 0x3F6381A5, 0x3F63AFAB, 0x3F63DD8E, 0x3F640B4E, 0x3F6438EB, 0x3F646665, 0x3F6493BB,
   0x3F64C0EE, 0x3F64EDFE, 0x3F651AEB, 0x3F6547B4, 0x3F65745A, 0x3F65A0DC, 0x3F65CD3B, 0x3F65F977,
   0x3F66258F, 0x3F665184, 0x3F667D55, 0x3F66A903, 0x3F66D48D, 0x3F66FFF3, 0x3F672B36, 0x3F675655,
   0x3F678151, 0x3F67AC29, 0x3F67D6DD, 0x3F68016D, 0x3F682BDA, 0x3F685623, 0x3F688047, 0x3F68AA49,
   0x3F68D426, 0x3F68FDDF, 0x3F692774, 0x3F6950E6, 0x3F697A33, 0x3F69A35D, 0x3F69CC62, 0x3F69F543,
   0x3F6A1E01, 0x3F6A469A, 0x3F6A6F0F, 0x3F6A9760, 0x3F6ABF8C, 0x3F6AE795, 0x3F6B0F79, 0x3F6B3739,
   0x3F6B5ED5, 0x3F6B864C, 0x3F6BADA0, 0x3F6BD4CE, 0x3F6BFBD9, 0x3F6C22BF, 0x3F6C4980, 0x3F6C701E]

/-- SINE_LONG (R290), words 768 to 895. -/
def sineLongWords6 : List Nat :=
  [0x3F6C9696, 0x3F6CBCEA, 0x3F6CE31A, 0x3F6D0925, 0x3F6D2F0C, 0x3F6D54CE, 0x3F6D7A6C, 0x3F6D9FE4,
   0x3F6DC539, 0x3F6DEA68, 0x3F6E0F73, 0x3F6E3459, 0x3F6E591A, 0x3F6E7DB7, 0x3F6EA22F, 0x3F6EC682,
   0x3F6EEAB0, 0x3F6F0EBA, 0x3F6F329E, 0x3F6F565E, 0x3F6F79F8, 0x3F6F9D6E, 0x3F6FC0BF, 0x3F6FE3EB,
   0x3F7006F2, 0x3F7029D4, 0x3F704C91, 0x3F706F28, 0x3F70919B, 0x3F70B3E9, 0x3F70D611, 0x3F70F814,
   0x3F7119F3, 0x3F713BAC, 0x3F715D3F, 0x3F717EAE, 0x3F719FF7, 0x3F71C11B, 0x3F71E21A, 0x3F7202F4,
   0x3F7223A8, 0x3F724437, 0x3F7264A0, 0x3F7284E4, 0x3F72A503, 0x3F72C4FC, 0x3F72E4D0, 0x3F73047E,
   0x3F732407, 0x3F73436B, 0x3F7362A8, 0x3F7381C1, 0x3F73A0B4, 0x3F73BF81, 0x3F73DE28, 0x3F73FCAA,
   0x3F741B07, 0x3F74393E, 0x3F74574F, 0x3F74753A, 0x3F749300, 0x3F74B0A0, 0x3F74CE1A, 0x3F74EB6F,
   0x3F75089D, 0x3F7525A6, 0x3F754289, 0x3F755F47, 0x3F757BDE, 0x3F759850, 0x3F75B49C, 0x3F75D0C2,
   0x3F75ECC2, 0x3F76089C, 0x3F762450, 0x3F763FDE, 0x3F765B46, 0x3F767688, 0x3F7691A4, 0x3F76AC9A,
   0x3F76C76B, 0x3F76E215, 0x3F76FC99, 0x3F7716F6, 0x3F77312E, 0x3F774B40, 0x3F77652B, 0x3F777EF1,
   0x3F779890, 0x3F77B209, 0x3F77CB5C, 0x3F77E488, 0x3F77FD8F, 0x3F78166F, 0x3F782F29, 0x3F7847BC,
   0x3F78602A, 0x3F787871, 0x3F789091, 0x3F78A88C, 0x3F78C060, 0x3F78D80E, 0x3F78EF95, 0x3F7906F6,
   0x3F791E30, 0x3F793544, 0x3F794C32, 0x3F7962F9, 0x3F79799A, 0x3F799014, 0x3F79A668, 0x3F79BC95,
   0x3F79D29C, 0x3F79E87C, 0x3F79FE36, 0x3F7A13C9, 0x3F7A2936, 0x3F7A3E7C, 0x3F7A539B, 0x3F7A6894,
   0x3F7A7D66, 0x3F7A9212, 0x3F7AA697, 0x3F7ABAF5, 0x3F7ACF2D, 0x3F7AE33D, 0x3F7AF728, 0x3F7B0AEB]

/-- SINE_LONG (R290), words 896 to 1023. -/
def sineLongWords7 : List Nat :=
  [0x3F7B1E88, 0x3F7B31FE, 0x3F7B454E, 0x3F7B5876, 0x3F7B6B78, 0x3F7B7E53, 0x3F7B9107, 0x3F7BA395,
   0x3F7BB5FC, 0x3F7BC83B, 0x3F7BDA55, 0x3F7BEC47, 0x3F7BFE12, 0x3F7C0FB7, 0x3F7C2134, 0x3F7C328B,
   0x3F7C43BB, 0x3F7C54C4, 0x3F7C65A6, 0x3F7C7661, 0x3F7C86F5, 0x3F7C9762, 0x3F7CA7A9, 0x3F7CB7C8,
   0x3F7CC7C0, 0x3F7CD792, 0x3F7CE73C, 0x3F7CF6C0, 0x3F7D061C, 0x3F7D1551, 0x3F7D2460, 0x3F7D3347,
   0x3F7D4207, 0x3F7D50A0, 0x3F7D5F13, 0x3F7D6D5E, 0x3F7D7B82, 0x3F7D897E, 0x3F7D9754, 0x3F7DA503,
   0x3F7DB28A, 0x3F7DBFEB, 0x3F7DCD24, 0x3F7DDA36, 0x3F7DE721, 0x3F7DF3E5, 0x3F7E0082, 0x3F7E0CF7,
   0x3F7E1946, 0x3F7E256D, 0x3F7E316D, 0x3F7E3D46, 0x3F7E48F7, 0x3F7E5482, 0x3F7E5FE5, 0x3F7E6B21,
   0x3F7E7635, 0x3F7E8123, 0x3F7E8BE9, 0x3F7E9688, 0x3F7EA100, 0x3F7EAB50, 0x3F7EB579, 0x3F7EBF7B,
   0x3F7EC955, 0x3F7ED309, 0x3F7EDC95, 0x3F7EE5F9, 0x3F7EEF37, 0x3F7EF84D, 0x3F7F013C, 0x3F7F0A03,
   0x3F7F12A3, 0x3F7F1B1C, 0x3F7F236D, 0x3F7F2B97, 0x3F7F339A, 0x3F7F3B75, 0x3F7F4329, 0x3F7F4AB6,
   0x3F7F521B, 0x3F7F5959, 0x3F7F606F, 0x3F7F675F, 0x3F7F6E26, 0x3F7F74C7, 0x3F7F7B40, 0x3F7F8191,
   0x3F7F87BB, 0x3F7F8DBE, 0x3F7F9399, 0x3F7F994D, 0x3F7F9EDA, 0x3F7FA43F, 0x3F7FA97D, 0x3F7FAE93,
   0x3F7FB382, 0x3F7FB849, 0x3F7FBCE9, 0x3F7FC161, 0x3F7FC5B2, 0x3F7FC9DC, 0x3F7FCDDE, 0x3F7FD1B9,
   0x3F7FD56C, 0x3F7FD8F8, 0x3F7FDC5C, 0x3F7FDF99, 0x3F7FE2AF, 0x3F7FE59D, 0x3F7FE863, 0x3F7FEB02,
   0x3F7FED7A, 0x3F7FEFCA, 0x3F7FF1F3, 0x3F7FF3F4, 0x3F7FF5CE, 0x3F7FF780, 0x3F7FF90B, 0x3F7FFA6E,
   0x3F7FFBAA, 0x3F7FFCBE, 0x3F7FFDAB, 0x3F7FFE70, 0x3F7FFF0E, 0x3F7FFF85, 0x3F7FFFD4, 0x3F7FFFFB]

/-- The whole table SINE_LONG (R290). -/
def sineLongWords : List Nat :=
  sineLongWords0 ++ sineLongWords1 ++ sineLongWords2 ++ sineLongWords3 ++ sineLongWords4 ++ sineLongWords5 ++ sineLongWords6 ++ sineLongWords7

/-- KBD_LONG (R291), words 0 to 127. -/
def kbdLongWords0 : List Nat :=
  [0x399962F2, 0x39E16FB3, 0x3A0F5326, 0x3A2BA86E, 0x3A46E3A0, 0x3A619970, 0x3A7C1FA8, 0x3A8B5668,
   0x3A98B309, 0x3AA6330F, 0x3AB3E07B, 0x3AC1C30F, 0x3ACFE100, 0x3ADE3F64, 0x3AECE283, 0x3AFBCE05,
   0x3B05828F, 0x3B0D4550, 0x3B15308D, 0x3B1D456E, 0x3B258506, 0x3B2DF053, 0x3B368843, 0x3B3F4DBA,
   0x3B48418F, 0x3B516491, 0x3B5AB788, 0x3B643B33, 0x3B6DF04F, 0x3B77D793, 0x3B80F8D9, 0x3B861FAE,
   0x3B8B609E, 0x3B90BBFF, 0x3B963224, 0x3B9BC362, 0x3BA17009, 0x3BA7386C, 0x3BAD1CDC, 0x3BB31DA8,
   0x3BB93B21, 0x3BBF7596, 0x3BC5CD57, 0x3BCC42B1, 0x3BD2D5F3, 0x3BD9876C, 0x3BE05769, 0x3BE74638,
   0x3BEE5426, 0x3BF58182, 0x3BFCCE97, 0x3C021DD9, 0x3C05E491, 0x3C09BB9A, 0x3C0DA319, 0x3C119B35,
   0x3C15A414, 0x3C19BDDC, 0x3C1DE8B4, 0x3C2224C1, 0x3C26722A, 0x3C2AD114, 0x3C2F41A7, 0x3C33C406,
   0x3C385859, 0x3C3CFEC5, 0x3C41B770, 0x3C468280, 0x3C4B601B, 0x3C505065, 0x3C555385, 0x3C5A69A0,
   0x3C5F92DC, 0x3C64CF5F, 0x3C6A1F4D, 0x3C6F82CB, 0x3C74FA00, 0x3C7A8511, 0x3C801211, 0x3C82EBAC,
   0x3C85CF6D, 0x3C88BD66, 0x3C8BB5A8, 0x3C8EB848, 0x3C91C556, 0x3C94DCE6, 0x3C97FF09, 0x3C9B2BD2,
   0x3C9E6354, 0x3CA1A59F, 0x3CA4F2C7, 0x3CA84ADD, 0x3CABADF3, 0x3CAF1C1B, 0x3CB29568, 0x3CB619EA,
   0x3CB9A9B5, 0x3CBD44D8, 0x3CC0EB67, 0x3CC49D72, 0x3CC85B0C, 0x3CCC2445, 0x3CCFF930, 0x3CD3D9DD,
   0x3CD7C65D, 0x3CDBBEC3, 0x3CDFC31E, 0x3CE3D380, 0x3CE7EFFB, 0x3CEC189E, 0x3CF04D7B, 0x3CF48EA3,
   0x3CF8DC25, 0x3CFD3613, 0x3D00CE3F, 0x3D0307BA, 0x3D054784, 0x3D078DA5, 0x3D09DA24, 0x3D0C2D09,
   0x3D0E865D, 0x3D10E628, 0x3D134C71, 0x3D15B940, 0x3D182C9D, 0x3D1AA690, 0x3D1D2720, 0x3D1FAE55]

/-- KBD_LONG (R291), words 128 to 255. -/
def kbdLongWords1 : List Nat :=
  [0x3D223C37, 0x3D24D0CC, 0x3D276C1D, 0x3D2A0E31, 0x3D2CB70F, 0x3D2F66BF, 0x3D321D47, 0x3D34DAAE,
   0x3D379EFD, 0x3D3A6A3A, 0x3D3D3C6C, 0x3D401599, 0x3D42F5C9, 0x3D45DD03, 0x3D48CB4C, 0x3D4BC0AD,
   0x3D4EBD2B, 0x3D51C0CC, 0x3D54CB98, 0x3D57DD95, 0x3D5AF6C9, 0x3D5E173A, 0x3D613EEF, 0x3D646DED,
   0x3D67A43A, 0x3D6AE1DD, 0x3D6E26DC, 0x3D71733B, 0x3D74C702, 0x3D782235, 0x3D7B84DA, 0x3D7EEEF6,
   0x3D813048, 0x3D82ECD6, 0x3D84AD27, 0x3D86713F, 0x3D883920, 0x3D8A04CD, 0x3D8BD447, 0x3D8DA791,
   0x3D8F7EAE, 0x3D9159A1, 0x3D93386A, 0x3D951B0D, 0x3D97018B, 0x3D98EBE8, 0x3D9ADA24, 0x3D9CCC43,
   0x3D9EC246, 0x3DA0BC2E, 0x3DA2B9FF, 0x3DA4BBBA, 0x3DA6C160, 0x3DA8CAF4, 0x3DAAD877, 0x3DACE9EC,
   0x3DAEFF52, 0x3DB118AD, 0x3DB335FE, 0x3DB55747, 0x3DB77C88, 0x3DB9A5C3, 0x3DBBD2F9, 0x3DBE042D,
   0x3DC0395F, 0x3DC27290, 0x3DC4AFC1, 0x3DC6F0F5, 0x3DC9362B, 0x3DCB7F64, 0x3DCDCCA2, 0x3DD01DE6,
   0x3DD27330, 0x3DD4CC82, 0x3DD729DB, 0x3DD98B3E, 0x3DDBF0A9, 0x3DDE5A1F, 0x3DE0C79E, 0x3DE33929,
   0x3DE5AEC0, 0x3DE82862, 0x3DEAA610, 0x3DED27CA, 0x3DEFAD91, 0x3DF23765, 0x3DF4C546, 0x3DF75734,
   0x3DF9ED2E, 0x3DFC8736, 0x3DFF254A, 0x3E00E3B5, 0x3E0236CC, 0x3E038BE9, 0x3E04E30B, 0x3E063C33,
   0x3E079761, 0x3E08F494, 0x3E0A53CC, 0x3E0BB508, 0x3E0D1849, 0x3E0E7D8D, 0x3E0FE4D5, 0x3E114E20,
   0x3E12B96E, 0x3E1426BE, 0x3E15960F, 0x3E170762, 0x3E187AB5, 0x3E19F008, 0x3E1B675B, 0x3E1CE0AC,
   0x3E1E5BFB, 0x3E1FD947, 0x3E215890, 0x3E22D9D5, 0x3E245D14, 0x3E25E24E, 0x3E276980, 0x3E28F2AC,
   0x3E2A7DCE, 0x3E2C0AE7, 0x3E2D99F6, 0x3E2F2AF9, 0x3E30BDF0, 0x3E3252D9, 0x3E33E9B3, 0x3E35827E]

/-- KBD_LONG (R291), words 256 to 383. -/
def kbdLongWords2 : List Nat :=
  [0x3E371D37, 0x3E38B9DE, 0x3E3A5872, 0x3E3BF8F2, 0x3E3D9B5B, 0x3E3F3FAE, 0x3E40E5E7, 0x3E428E07,
   0x3E44380C, 0x3E45E3F4, 0x3E4791BE, 0x3E494168, 0x3E4AF2F1, 0x3E4CA657, 0x3E4E5B9A, 0x3E5012B6,
   0x3E51CBAB, 0x3E538677, 0x3E554318, 0x3E57018D, 0x3E58C1D3, 0x3E5A83EA, 0x3E5C47CE, 0x3E5E0D7F,
   0x3E5FD4FB, 0x3E619E3F, 0x3E63694A, 0x3E65361A, 0x3E6704AC, 0x3E68D500, 0x3E6AA712, 0x3E6C7AE1,
   0x3E6E506B, 0x3E7027AD, 0x3E7200A6, 0x3E73DB53, 0x3E75B7B2, 0x3E7795C0, 0x3E79757D, 0x3E7B56E5,
   0x3E7D39F6, 0x3E7F1EAD, 0x3E808284, 0x3E817683, 0x3E826B52, 0x3E8360EF, 0x3E84575A, 0x3E854E90,
   0x3E864692, 0x3E873F5D, 0x3E8838F0, 0x3E89334A, 0x3E8A2E6A, 0x3E8B2A4E, 0x3E8C26F5, 0x3E8D245E,
   0x3E8E2287, 0x3E8F216F, 0x3E902114, 0x3E912176, 0x3E922292, 0x3E932468, 0x3E9426F5, 0x3E952A39,
   0x3E962E31, 0x3E9732DD, 0x3E98383B, 0x3E993E4A, 0x3E9A4507, 0x3E9B4C72, 0x3E9C5489, 0x3E9D5D4A,
   0x3E9E66B4, 0x3E9F70C5, 0x3EA07B7B, 0x3EA186D6, 0x3EA292D4, 0x3EA39F72, 0x3EA4ACAF, 0x3EA5BA8A,
   0x3EA6C901, 0x3EA7D812, 0x3EA8E7BB, 0x3EA9F7FC, 0x3EAB08D2, 0x3EAC1A3B, 0x3EAD2C37, 0x3EAE3EC2,
   0x3EAF51DC, 0x3EB06583, 0x3EB179B4, 0x3EB28E6F, 0x3EB3A3B1, 0x3EB4B978, 0x3EB5CFC4, 0x3EB6E691,
   0x3EB7FDDF, 0x3EB915AB, 0x3EBA2DF4, 0x3EBB46B7, 0x3EBC5FF4, 0x3EBD79A8, 0x3EBE93D0, 0x3EBFAE6D,
   0x3EC0C97A, 0x3EC1E4F8, 0x3EC300E3, 0x3EC41D3A, 0x3EC539FB, 0x3EC65724, 0x3EC774B3, 0x3EC892A6,
   0x3EC9B0FB, 0x3ECACFB1, 0x3ECBEEC5, 0x3ECD0E36, 0x3ECE2E01, 0x3ECF4E25, 0x3ED06E9F, 0x3ED18F6D,
   0x3ED2B08F, 0x3ED3D200, 0x3ED4F3C1, 0x3ED615CE, 0x3ED73825, 0x3ED85AC5, 0x3ED97DAC, 0x3EDAA0D7]

/-- KBD_LONG (R291), words 384 to 511. -/
def kbdLongWords3 : List Nat :=
  [0x3EDBC444, 0x3EDCE7F2, 0x3EDE0BDF, 0x3EDF3008, 0x3EE0546B, 0x3EE17906, 0x3EE29DD8, 0x3EE3C2DD,
   0x3EE4E815, 0x3EE60D7D, 0x3EE73312, 0x3EE858D4, 0x3EE97EBF, 0x3EEAA4D2, 0x3EEBCB0B, 0x3EECF167,
   0x3EEE17E5, 0x3EEF3E82, 0x3EF0653C, 0x3EF18C12, 0x3EF2B300, 0x3EF3DA05, 0x3EF50120, 0x3EF6284C,
   0x3EF74F8A, 0x3EF876D6, 0x3EF99E2E, 0x3EFAC591, 0x3EFBECFC, 0x3EFD146D, 0x3EFE3BE2, 0x3EFF6359,
   0x3F004567, 0x3F00D921, 0x3F016CD9, 0x3F02008E, 0x3F02943E, 0x3F0327E8, 0x3F03BB8C, 0x3F044F29,
   0x3F04E2BD, 0x3F057647, 0x3F0609C6, 0x3F069D3A, 0x3F0730A1, 0x3F07C3FA, 0x3F085744, 0x3F08EA7E,
   0x3F097DA6, 0x3F0A10BD, 0x3F0AA3C1, 0x3F0B36B0, 0x3F0BC98A, 0x3F0C5C4E, 0x3F0CEEFB, 0x3F0D818F,
   0x3F0E1409, 0x3F0EA669, 0x3F0F38AE, 0x3F0FCAD6, 0x3F105CE1, 0x3F10EECC, 0x3F118098, 0x3F121244,
   0x3F12A3CE, 0x3F133535, 0x3F13C678, 0x3F145796, 0x3F14E88F, 0x3F157961, 0x3F160A0B, 0x3F169A8C,
   0x3F172AE3, 0x3F17BB0F, 0x3F184B10, 0x3F18DAE3, 0x3F196A89, 0x3F19FA00, 0x3F1A8947, 0x3F1B185D,
   0x3F1BA741, 0x3F1C35F3, 0x3F1CC470, 0x3F1D52B9, 0x3F1DE0CC, 0x3F1E6EA9, 0x3F1EFC4E, 0x3F1F89BA,
   0x3F2016ED, 0x3F20A3E5, 0x3F2130A1, 0x3F21BD21, 0x3F224964, 0x3F22D569, 0x3F23612E, 0x3F23ECB3,
   0x3F2477F7, 0x3F2502F9, 0x3F258DB8, 0x3F261833, 0x3F26A26A, 0x3F272C5A, 0x3F27B605, 0x3F283F67,
   0x3F28C882, 0x3F295153, 0x3F29D9DA, 0x3F2A6217, 0x3F2AEA07, 0x3F2B71AB, 0x3F2BF901, 0x3F2C8009,
   0x3F2D06C1, 0x3F2D8D2A, 0x3F2E1341, 0x3F2E9907, 0x3F2F1E7A, 0x3F2FA39A, 0x3F302865, 0x3F30ACDC,
   0x3F3130FD, 0x3F31B4C7, 0x3F32383A, 0x3F32BB54, 0x3F333E16, 0x3F33C07D, 0x3F34428B, 0x3F34C43D]

/-- KBD_LONG (R291), words 512 to 639. -/
def kbdLongWords4 : List Nat :=
  [0x3F354593, 0x3F35C68C, 0x3F364727, 0x3F36C765, 0x3F374743, 0x3F37C6C2, 0x3F3845E0, 0x3F38C49D,
   0x3F3942F9, 0x3F39C0F1, 0x3F3A3E87, 0x3F3ABBB8, 0x3F3B3885, 0x3F3BB4ED, 0x3F3C30EF, 0x3F3CAC8A,
   0x3F3D27BE, 0x3F3DA28A, 0x3F3E1CED, 0x3F3E96E8, 0x3F3F1078, 0x3F3F899E, 0x3F40025A, 0x3F407AA9,
   0x3F40F28D, 0x3F416A03, 0x3F41E10C, 0x3F4257A8, 0x3F42CDD4, 0x3F434392, 0x3F43B8E0, 0x3F442DBE,
   0x3F44A22B, 0x3F451627, 0x3F4589B2, 0x3F45FCCA, 0x3F466F6F, 0x3F46E1A1, 0x3F47535F, 0x3F47C4A9,
   0x3F48357F, 0x3F48A5DF, 0x3F4915C9, 0x3F49853D, 0x3F49F43B, 0x3F4A62C2, 0x3F4AD0D2, 0x3F4B3E69,
   0x3F4BAB88, 0x3F4C182F, 0x3F4C845D, 0x3F4CF011, 0x3F4D5B4B, 0x3F4DC60B, 0x3F4E3051, 0x3F4E9A1C,
   0x3F4F036B, 0x3F4F6C3F, 0x3F4FD497, 0x3F503C72, 0x3F50A3D1, 0x3F510AB3, 0x3F517118, 0x3F51D6FF,
   0x3F523C68, 0x3F52A154, 0x3F5305C0, 0x3F5369AF, 0x3F53CD1E, 0x3F54300E, 0x3F54927F, 0x3F54F471,
   0x3F5555E2, 0x3F55B6D4, 0x3F561745, 0x3F567736, 0x3F56D6A6, 0x3F573595, 0x3F579403, 0x3F57F1F0,
   0x3F584F5C, 0x3F58AC46, 0x3F5908AF, 0x3F596496, 0x3F59BFFB, 0x3F5A1ADE, 0x3F5A753E, 0x3F5ACF1D,
   0x3F5B2879, 0x3F5B8153, 0x3F5BD9AA, 0x3F5C317F, 0x3F5C88D1, 0x3F5CDFA0, 0x3F5D35ED, 0x3F5D8BB7,
   0x3F5DE0FE, 0x3F5E35C2, 0x3F5E8A03, 0x3F5EDDC1, 0x3F5F30FD, 0x3F5F83B6, 0x3F5FD5EB, 0x3F60279E,
   0x3F6078CE, 0x3F60C97B, 0x3F6119A6, 0x3F61694E, 0x3F61B873, 0x3F620715, 0x3F625535, 0x3F62A2D3,
   0x3F62EFEE, 0x3F633C87, 0x3F63889E, 0x3F63D433, 0x3F641F46, 0x3F6469D7, 0x3F64B3E6, 0x3F64FD74,
   0x3F654681, 0x3F658F0C, 0x3F65D716, 0x3F661EA0, 0x3F6665A8, 0x3F66AC30, 0x3F66F238, 0x3F6737BF]

/-- KBD_LONG (R291), words 640 to 767. -/
def kbdLongWords5 : List Nat :=
  [0x3F677CC7, 0x3F67C14E, 0x3F680556, 0x3F6848DF, 0x3F688BE9, 0x3F68CE74, 0x3F691080, 0x3F69520E,
   0x3F69931D, 0x3F69D3AF, 0x3F6A13C3, 0x3F6A535A, 0x3F6A9274, 0x3F6AD111, 0x3F6B0F31, 0x3F6B4CD5,
   0x3F6B89FE, 0x3F6BC6AB, 0x3F6C02DC, 0x3F6C3E93, 0x3F6C79CF, 0x3F6CB490, 0x3F6CEED8, 0x3F6D28A6,
   0x3F6D61FB, 0x3F6D9AD7, 0x3F6DD33B, 0x3F6E0B26, 0x3F6E429A, 0x3F6E7996, 0x3F6EB01B, 0x3F6EE629,
   0x3F6F1BC2, 0x3F6F50E4, 0x3F6F8591, 0x3F6FB9C9, 0x3F6FED8C, 0x3F7020DB, 0x3F7053B6, 0x3F70861E,
   0x3F70B813, 0x3F70E996, 0x3F711AA6, 0x3F714B45, 0x3F717B73, 0x3F71AB30, 0x3F71DA7C, 0x3F720959,
   0x3F7237C7, 0x3F7265C6, 0x3F729357, 0x3F72C079, 0x3F72ED2F, 0x3F731977, 0x3F734553, 0x3F7370C3,
   0x3F739BC8, 0x3F73C662, 0x3F73F091, 0x3F741A57, 0x3F7443B3, 0x3F746CA6, 0x3F749531, 0x3F74BD55,
   0x3F74E511, 0x3F750C66, 0x3F753355, 0x3F7559DE, 0x3F758003, 0x3F75A5C2, 0x3F75CB1E, 0x3F75F016,
   0x3F7614AB, 0x3F7638DE, 0x3F765CAF, 0x3F76801F, 0x3F76A32E, 0x3F76C5DD, 0x3F76E82C, 0x3F770A1C,
   0x3F772BAE, 0x3F774CE2, 0x3F776DB9, 0x3F778E33, 0x3F77AE51, 0x3F77CE13, 0x3F77ED7A, 0x3F780C87,
   0x3F782B3A, 0x3F784994, 0x3F786795, 0x3F78853E, 0x3F78A290, 0x3F78BF8B, 0x3F78DC2F, 0x3F78F87E,
   0x3F791478, 0x3F79301D, 0x3F794B6F, 0x3F79666D, 0x3F798118, 0x3F799B72, 0x3F79B57A, 0x3F79CF31,
   0x3F79E897, 0x3F7A01AE, 0x3F7A1A76, 0x3F7A32EF, 0x3F7A4B1B, 0x3F7A62F9, 0x3F7A7A8A, 0x3F7A91D0,
   0x3F7AA8CA, 0x3F7ABF79, 0x3F7AD5DE, 0x3F7AEBF9, 0x3F7B01CB, 0x3F7B1754, 0x3F7B2C96, 0x3F7B4190,
   0x3F7B5644, 0x3F7B6AB2, 0x3F7B7EDA, 0x3F7B92BE, 0x3F7BA65D, 0x3F7BB9B8, 0x3F7BCCD0, 0x3F7BDFA6]

/-- KBD_LONG (R291), words 768 to 895. -/
def kbdLongWords6 : List Nat :=
  [0x3F7BF23A, 0x3F7C048D, 0x3F7C169F, 0x3F7C2871, 0x3F7C3A03, 0x3F7C4B57, 0x3F7C5C6C, 0x3F7C6D43,
   0x3F7C7DDD, 0x3F7C8E3B, 0x3F7C9E5C, 0x3F7CAE43, 0x3F7CBDEE, 0x3F7CCD5F, 0x3F7CDC96, 0x3F7CEB95,
   0x3F7CFA5A, 0x3F7D08E8, 0x3F7D173E, 0x3F7D255E, 0x3F7D3347, 0x3F7D40FB, 0x3F7D4E79, 0x3F7D5BC3,
   0x3F7D68D8, 0x3F7D75BB, 0x3F7D826A, 0x3F7D8EE7, 0x3F7D9B32, 0x3F7DA74C, 0x3F7DB335, 0x3F7DBEEE,
   0x3F7DCA77, 0x3F7DD5D1, 0x3F7DE0FC, 0x3F7DEBFA, 0x3F7DF6C9, 0x3F7E016C, 0x3F7E0BE3, 0x3F7E162D,
   0x3F7E204C, 0x3F7E2A40, 0x3F7E3409, 0x3F7E3DA9, 0x3F7E471F, 0x3F7E506C, 0x3F7E5991, 0x3F7E628E,
   0x3F7E6B63, 0x3F7E7412, 0x3F7E7C9A, 0x3F7E84FC, 0x3F7E8D39, 0x3F7E9550, 0x3F7E9D44, 0x3F7EA513,
   0x3F7EACBE, 0x3F7EB446, 0x3F7EBBAC, 0x3F7EC2EF, 0x3F7ECA11, 0x3F7ED112, 0x3F7ED7F1, 0x3F7EDEB0,
   0x3F7EE550, 0x3F7EEBCF, 0x3F7EF230, 0x3F7EF872, 0x3F7EFE96, 0x3F7F049B, 0x3F7F0A84, 0x3F7F1050,
   0x3F7F15FF, 0x3F7F1B92, 0x3F7F2109, 0x3F7F2665, 0x3F7F2BA6, 0x3F7F30CC, 0x3F7F35D9, 0x3F7F3ACB,
   0x3F7F3FA5, 0x3F7F4465, 0x3F7F490D, 0x3F7F4D9C, 0x3F7F5214, 0x3F7F5674, 0x3F7F5ABD, 0x3F7F5EF0,
   0x3F7F630C, 0x3F7F6712, 0x3F7F6B02, 0x3F7F6EDD, 0x3F7F72A3, 0x3F7F7655, 0x3F7F79F2, 0x3F7F7D7B,
   0x3F7F80F1, 0x3F7F8453, 0x3F7F87A3, 0x3F7F8ADF, 0x3F7F8E0A, 0x3F7F9122, 0x3F7F9428, 0x3F7F971E,
   0x3F7F9A02, 0x3F7F9CD5, 0x3F7F9F98, 0x3F7FA24A, 0x3F7FA4ED, 0x3F7FA780, 0x3F7FAA03, 0x3F7FAC78,
   0x3F7FAEDE, 0x3F7FB135, 0x3F7FB37E, 0x3F7FB5B9, 0x3F7FB7E6, 0x3F7FBA05, 0x3F7FBC18, 0x3F7FBE1D,
   0x3F7FC016, 0x3F7FC202, 0x3F7FC3E2, 0x3F7FC5B6, 0x3F7FC77E, 0x3F7FC93B, 0x3F7FCAEC, 0x3F7FCC93]

/-- KBD_LONG (R291), words 896 to 1023. -/
def kbdLongWords7 : List Nat :=
  [0x3F7FCE2E, 0x3F7FCFBF, 0x3F7FD145, 0x3F7FD2C1, 0x3F7FD434, 0x3F7FD59C, 0x3F7FD6FB, 0x3F7FD850,
   0x3F7FD99C, 0x3F7FDAE0, 0x3F7FDC1A, 0x3F7FDD4C, 0x3F7FDE75, 0x3F7FDF97, 0x3F7FE0B0, 0x3F7FE1C1,
   0x3F7FE2CA, 0x3F7FE3CC, 0x3F7FE4C7, 0x3F7FE5BA, 0x3F7FE6A7, 0x3F7FE78C, 0x3F7FE86B, 0x3F7FE943,
   0x3F7FEA15, 0x3F7FEAE1, 0x3F7FEBA6, 0x3F7FEC65, 0x3F7FED1F, 0x3F7FEDD3, 0x3F7FEE82, 0x3F7FEF2B,
   0x3F7FEFCE, 0x3F7FF06D, 0x3F7FF107, 0x3F7FF19B, 0x3F7FF22B, 0x3F7FF2B7, 0x3F7FF33D, 0x3F7FF3C0,
   0x3F7FF43E, 0x3F7FF4B8, 0x3F7FF52E, 0x3F7FF5A0, 0x3F7FF60E, 0x3F7FF678, 0x3F7FF6DF, 0x3F7FF742,
   0x3F7FF7A1, 0x3F7FF7FE, 0x3F7FF857, 0x3F7FF8AC, 0x3F7FF8FF, 0x3F7FF94F, 0x3F7FF99C, 0x3F7FF9E6,
   0x3F7FFA2D, 0x3F7FFA72, 0x3F7FFAB4, 0x3F7FFAF3, 0x3F7FFB31, 0x3F7FFB6B, 0x3F7FFBA4, 0x3F7FFBDA,
   0x3F7FFC0E, 0x3F7FFC40, 0x3F7FFC70, 0x3F7FFC9E, 0x3F7FFCCA, 0x3F7FFCF5, 0x3F7FFD1D, 0x3F7FFD44,
   0x3F7FFD69, 0x3F7FFD8D, 0x3F7FFDAF, 0x3F7FFDD0, 0x3F7FFDEF, 0x3F7FFE0D, 0x3F7FFE29, 0x3F7FFE44,
   0x3F7FFE5E, 0x3F7FFE77, 0x3F7FFE8E, 0x3F7FFEA5, 0x3F7FFEBA, 0x3F7FFECE, 0x3F7FFEE2, 0x3F7FFEF4,
   0x3F7FFF05, 0x3F7FFF16, 0x3F7FFF26, 0x3F7FFF34, 0x3F7FFF42, 0x3F7FFF50, 0x3F7FFF5C, 0x3F7FFF68,
   0x3F7FFF73, 0x3F7FFF7E, 0x3F7FFF88, 0x3F7FFF91, 0x3F7FFF9A, 0x3F7FFFA3, 0x3F7FFFAA, 0x3F7FFFB2,
   0x3F7FFFB9, 0x3F7FFFBF, 0x3F7FFFC5, 0x3F7FFFCA, 0x3F7FFFD0, 0x3F7FFFD5, 0x3F7FFFD9, 0x3F7FFFDD,
   0x3F7FFFE1, 0x3F7FFFE5, 0x3F7FFFE8, 0x3F7FFFEB, 0x3F7FFFEE, 0x3F7FFFF0, 0x3F7FFFF3, 0x3F7FFFF5,
   0x3F7FFFF7, 0x3F7FFFF8, 0x3F7FFFFA, 0x3F7FFFFB, 0x3F7FFFFC, 0x3F7FFFFD, 0x3F7FFFFE, 0x3F7FFFFF]

/-- The whole table KBD_LONG (R291). -/
def kbdLongWords : List Nat :=
  kbdLongWords0 ++ kbdLongWords1 ++ kbdLongWords2 ++ kbdLongWords3 ++ kbdLongWords4 ++ kbdLongWords5 ++ kbdLongWords6 ++ kbdLongWords7

/-- SINE_SHORT (R292), words 0 to 127. -/
def sineShortWords0 : List Nat :=
  [0x3BC90F88, 0x3C96C9B6, 0x3CFB49BA, 0x3D2FE007, 0x3D621469, 0x3D8A200A, 0x3DA3308C, 0x3DBC3AC3,
   0x3DD53DB9, 0x3DEE3876, 0x3E039502, 0x3E1008B7, 0x3E1C76DE, 0x3E28DEFC, 0x3E354098, 0x3E419B37,
   0x3E4DEE60, 0x3E5A3997, 0x3E667C66, 0x3E72B651, 0x3E7EE6E1, 0x3E8586CE, 0x3E8B9507, 0x3E919DDD,
   0x3E97A117, 0x3E9D9E78, 0x3EA395C5, 0x3EA986C4, 0x3EAF713A, 0x3EB554EC, 0x3EBB31A0, 0x3EC1071E,
   0x3EC6D529, 0x3ECC9B8B, 0x3ED25A09, 0x3ED8106B, 0x3EDDBE79, 0x3EE363FA, 0x3EE900B7, 0x3EEE9479,
   0x3EF41F07, 0x3EF9A02D, 0x3EFF17B2, 0x3F0242B1, 0x3F04F484, 0x3F07A136, 0x3F0A48AD, 0x3F0CEAD0,
   0x3F0F8784, 0x3F121EB0, 0x3F14B039, 0x3F173C07, 0x3F19C200, 0x3F1C420C, 0x3F1EBC12, 0x3F212FF9,
   0x3F239DA9, 0x3F26050A, 0x3F286605, 0x3F2AC082, 0x3F2D1469, 0x3F2F61A5, 0x3F31A81D, 0x3F33E7BC,
   0x3F36206C, 0x3F385216, 0x3F3A7CA4, 0x3F3CA003, 0x3F3EBC1B, 0x3F40D0DA, 0x3F42DE29, 0x3F44E3F5,
   0x3F46E22A, 0x3F48D8B3, 0x3F4AC77F, 0x3F4CAE79, 0x3F4E8D90, 0x3F5064AF, 0x3F5233C6, 0x3F53FAC3,
   0x3F55B993, 0x3F577026, 0x3F591E6A, 0x3F5AC450, 0x3F5C61C7, 0x3F5DF6BE, 0x3F5F8327, 0x3F6106F2,
   0x3F628210, 0x3F63F473, 0x3F655E0B, 0x3F66BECC, 0x3F6816A8, 0x3F696591, 0x3F6AAB7B, 0x3F6BE858,
   0x3F6D1C1D, 0x3F6E46BE, 0x3F6F6830, 0x3F708066, 0x3F718F57, 0x3F7294F8, 0x3F73913F, 0x3F748422,
   0x3F756D97, 0x3F764D97, 0x3F772417, 0x3F77F110, 0x3F78B47B, 0x3F796E4E, 0x3F7A1E84, 0x3F7AC516,
   0x3F7B61FC, 0x3F7BF531, 0x3F7C7EB0, 0x3F7CFE73, 0x3F7D7474, 0x3F7DE0B1, 0x3F7E4323, 0x3F7E9BC9,
   0x3F7EEA9D, 0x3F7F2F9D, 0x3F7F6AC7, 0x3F7F9C18, 0x3F7FC38F, 0x3F7FE129, 0x3F7FF4E6, 0x3F7FFEC4]

/-- The whole table SINE_SHORT (R292). -/
def sineShortWords : List Nat :=
  sineShortWords0

/-- KBD_SHORT (R293), words 0 to 127. -/
def kbdShortWords0 : List Nat :=
  [0x3837B147, 0x38F8E089, 0x3971EC83, 0x39CC3229, 0x3A1ECF68, 0x3A69D4E7, 0x3AA5607B, 0x3AE2C6F4,
   0x3B17A699, 0x3B46AA70, 0x3B7FB8C8, 0x3BA219F1, 0x3BCACAD0, 0x3BFAB72D, 0x3C1958D7, 0x3C39CB44,
   0x3C5F2531, 0x3C84EE44, 0x3C9D3508, 0x3CB8A44E, 0x3CD77A1B, 0x3CF9F48D, 0x3D1028AF, 0x3D2566AF,
   0x3D3CD1EF, 0x3D56870E, 0x3D72A159, 0x3D889D3F, 0x3D99351E, 0x3DAB230E, 0x3DBE7092, 0x3DD325C9,
   0x3DE9494B, 0x3E007004, 0x3E0CF697, 0x3E1A3907, 0x3E2836FF, 0x3E36EF28, 0x3E465F20, 0x3E568370,
   0x3E675791, 0x3E78D5E2, 0x3E857BDA, 0x3E8EDAA2, 0x3E9882E4, 0x3EA26FBC, 0x3EAC9BCC, 0x3EB70144,
   0x3EC199EB, 0x3ECC5F23, 0x3ED749FE, 0x3EE25340, 0x3EED736E, 0x3EF8A2DE, 0x3F01ECE0, 0x3F078819,
   0x3F0D1F24, 0x3F12AE10, 0x3F1830F6, 0x3F1DA402, 0x3F23037A, 0x3F284BC5, 0x3F2D7972, 0x3F32893B,
   0x3F377811, 0x3F3C431C, 0x3F40E7C3, 0x3F4563AF, 0x3F49B4CF, 0x3F4DD95A, 0x3F51CFD3, 0x3F559709,
   0x3F592E18, 0x3F5C9469, 0x3F5FC9B2, 0x3F62CDF2, 0x3F65A171, 0x3F6844BD, 0x3F6AB8A3, 0x3F6CFE2F,
   0x3F6F16A6, 0x3F71037D, 0x3F72C659, 0x3F746104, 0x3F75D56A, 0x3F772592, 0x3F785396, 0x3F7961A0,
   0x3F7A51DE, 0x3F7B2683, 0x3F7BE1BE, 0x3F7C85B2, 0x3F7D1477, 0x3F7D9013, 0x3F7DFA73, 0x3F7E5570,
   0x3F7EA2C3, 0x3F7EE40C, 0x3F7F1ACA, 0x3F7F485D, 0x3F7F6E07, 0x3F7F8CEB, 0x3F7FA60D, 0x3F7FBA54,
   0x3F7FCA8C, 0x3F7FD766, 0x3F7FE17C, 0x3F7FE953, 0x3F7FEF5A, 0x3F7FF3EE, 0x3F7FF75F, 0x3F7FF9EC,
   0x3F7FFBC9, 0x3F7FFD21, 0x3F7FFE15, 0x3F7FFEBF, 0x3F7FFF33, 0x3F7FFF80, 0x3F7FFFB3, 0x3F7FFFD3,
   0x3F7FFFE7, 0x3F7FFFF3, 0x3F7FFFF9, 0x3F7FFFFD, 0x3F7FFFFF, 0x3F800000, 0x3F800000, 0x3F800000]

/-- The whole table KBD_SHORT (R293). -/
def kbdShortWords : List Nat :=
  kbdShortWords0

/-- `WLONG[s]` (R294): 0 is the sine window, 1 the Kaiser-Bessel-derived one. -/
def wlong (s : Shape) : List F32 :=
  match s with
  | .sine => sineLongWords.map (BitVec.ofNat 32)
  | .kbd => kbdLongWords.map (BitVec.ofNat 32)

/-- `WSHORT[s]` (R294). -/
def wshort (s : Shape) : List F32 :=
  match s with
  | .sine => sineShortWords.map (BitVec.ofNat 32)
  | .kbd => kbdShortWords.map (BitVec.ofNat 32)

end Sys2Proof.Machine
end

