-- ==== Sys2Proof/Machine/FilterBank.lean ====
section
/-! DEFINITION. The filter bank: the four inverse cases (R222 to R230) and `IFB` (R223), the forward path and `FFB` (R235 to R237),
all of `45_filterbank.md`. `t` is the transform buffer `fb.transf`, `O` the old overlap. -/

namespace Sys2Proof.Machine

/-- What a case of `IFB` answers: the output `Y` and the new overlap `O_new` (R223). -/
structure IfbResult where
  time : List F32
  ovl : List F32
  deriving DecidableEq, Repr

/-- `fmul(t[i], W[j])`: a transform sample under a window value. -/
def windowedAt (t W : List F32) (i j : Nat) : F32 := fmul (elemF t i) (elemF W j)

/-- Output sample `i` of OnlyLong and LongStart (R226, R227). -/
def longRiseAt (sp : Shape) (t O : List F32) (i : Nat) : F32 := fadd (elemF O i) (windowedAt t (wlong sp) i i)

/-- New overlap sample `i` of OnlyLong and LongStop (R226, R229): the second half under the current long window, reversed. -/
def longFallAt (s : Shape) (t : List F32) (i : Nat) : F32 := windowedAt t (wlong s) (1024 + i) (1023 - i)

/-- `IfbOnlyLong` after the transform (R226). -/
def ifbOnlyLong (s sp : Shape) (t O : List F32) : IfbResult :=
  { time := (List.range frameLen).map (longRiseAt sp t O), ovl := (List.range frameLen).map (longFallAt s t) }

/-- New overlap sample `i` of LongStart (R227): flat band, short falling band, zero band. -/
def longStartOvlAt (s : Shape) (t : List F32) (i : Nat) : F32 :=
  if i < 448 then elemF t (1024 + i)
  else if i < 576 then windowedAt t (wshort s) (1472 + (i - 448)) (127 - (i - 448))
  else 0

/-- `IfbLongStart` after the transform (R227). -/
def ifbLongStart (s sp : Shape) (t O : List F32) : IfbResult :=
  { time := (List.range frameLen).map (longRiseAt sp t O), ovl := (List.range frameLen).map (longStartOvlAt s t) }

/-- The falling half of a short block at transform offset `f` under `R[i]` (R228). -/
def shortFall (s : Shape) (t : List F32) (f i : Nat) : F32 := windowedAt t (wshort s) (f + i) (127 - i)

/-- The rising half of a short block at transform offset `r` under `A[i]` or `AP[i]` (R228). -/
def shortRise (s : Shape) (t : List F32) (r i : Nat) : F32 := windowedAt t (wshort s) (r + i) i

/-- A three-term output sample of EightShort (R228): the old overlap, then the falling half at `f`, then the rising half at `r`. -/
def shortBlendAt (s : Shape) (t O : List F32) (p f r i : Nat) : F32 :=
  fadd (fadd (elemF O p) (shortFall s t f i)) (shortRise s t r i)

/-- Output sample `p` of EightShort (R228). -/
def eightShortTimeAt (s sp : Shape) (t O : List F32) (p : Nat) : F32 :=
  if p < 448 then elemF O p
  else if p < 576 then fadd (elemF O p) (shortRise sp t 0 (p - 448))
  else if p < 704 then shortBlendAt s t O p 128 256 (p - 576)
  else if p < 832 then shortBlendAt s t O p 384 512 (p - 704)
  else if p < 960 then shortBlendAt s t O p 640 768 (p - 832)
  else shortBlendAt s t O p 896 1024 (p - 960)

/-- A two-term new overlap sample of EightShort (R228). -/
def shortPairAt (s : Shape) (t : List F32) (f r i : Nat) : F32 := fadd (shortFall s t f i) (shortRise s t r i)

/-- New overlap sample `p` of EightShort (R228). The first band is `i` in `[64, 128)` at place `i - 64`. -/
def eightShortOvlAt (s : Shape) (t : List F32) (p : Nat) : F32 :=
  if p < 64 then shortPairAt s t 896 1024 (p + 64)
  else if p < 192 then shortPairAt s t 1152 1280 (p - 64)
  else if p < 320 then shortPairAt s t 1408 1536 (p - 192)
  else if p < 448 then shortPairAt s t 1664 1792 (p - 320)
  else if p < 576 then shortFall s t 1920 (p - 448)
  else 0

/-- `IfbEightShort` after the transforms (R228). -/
def ifbEightShort (s sp : Shape) (t O : List F32) : IfbResult :=
  { time := (List.range frameLen).map (eightShortTimeAt s sp t O), ovl := (List.range frameLen).map (eightShortOvlAt s t) }

/-- Output sample `i` of LongStop (R229): flat old overlap, short rising band, flat sum. -/
def longStopTimeAt (sp : Shape) (t O : List F32) (i : Nat) : F32 :=
  if i < 448 then elemF O i
  else if i < 576 then fadd (elemF O i) (windowedAt t (wshort sp) i (i - 448))
  else fadd (elemF O i) (elemF t i)

/-- `IfbLongStop` after the transform (R229). -/
def ifbLongStop (s sp : Shape) (t O : List F32) : IfbResult :=
  { time := (List.range frameLen).map (longStopTimeAt sp t O), ovl := (List.range frameLen).map (longFallAt s t) }

/-- The eight short transforms of EightShort laid end to end (R224), the scratch of each handed to the next. -/
def shortTransforms (c : Context) (X : List F32) : Nat → MdctResult
  | 0 => { out := [], z := [], work := c.work }
  | b + 1 =>
    let before := shortTransforms c X b
    let r := imdct .m0 { c with work := before.work } ((X.drop (128 * b)).take 128)
    { out := before.out ++ r.out, z := r.z, work := r.work }

/-- The slot whose transform a window sequence uses (R224). -/
def ifbSlot : WindowSequence → Slot
  | .onlyLong => .m1
  | .longStart => .m1
  | .eightShort => .m0
  | .longStop => .m1

/-- The transform buffer of a window sequence (R224): one long or eight short transforms. -/
def ifbTransform (ws : WindowSequence) (c0 c1 : Context) (X : List F32) : MdctResult :=
  match ws with
  | .onlyLong => imdct .m1 c1 X
  | .longStart => imdct .m1 c1 X
  | .eightShort => shortTransforms c0 X 8
  | .longStop => imdct .m1 c1 X

/-- The case of a window sequence (R223). -/
def ifbCase (ws : WindowSequence) (s sp : Shape) (t O : List F32) : IfbResult :=
  match ws with
  | .onlyLong => ifbOnlyLong s sp t O
  | .longStart => ifbLongStart s sp t O
  | .eightShort => ifbEightShort s sp t O
  | .longStop => ifbLongStop s sp t O

/-- `fb.transf` replaced (R45). -/
def State.setTransf (s : State) (t : List F32) : State := { s with transf := t }

/-- `fb.windowed` replaced (R45). -/
def State.setWindowed (s : State) (w : List F32) : State := { s with windowed := w }

/-- The effect of `IFB` (R223): the inputs are read first, then all of `TIME` and `OVL` is written. -/
def ifbEffect (ws : WindowSequence) (sh shp : Shape) (freq time ovl : Word) (s : State) : State :=
  let X := s.mem.readWords freq.toNat frameLen
  let O := s.mem.readWords ovl.toNat frameLen
  let tr := ifbTransform ws s.cfft0 s.cfft1 X
  let r := ifbCase ws sh shp tr.out O
  (((s.storeWords time r.time).storeWords ovl r.ovl).setScratch (ifbSlot ws) tr).setTransf tr.out

/-- `IFB ws, shape, shape_prev, @FREQ, @TIME, @OVL` (R223). -/
def execIfb (ws : WindowSequence) (shape shapePrev : Shape) (freq time ovl : Word) (s : State) :
    Host.Outcome State Fault Refusal :=
  s.perform (.ifb ws shape shapePrev freq time ovl) (ifbEffect ws shape shapePrev freq time ovl)

/-- Sample `i` of `Windowed(s, sp, x)` (R237): previous shape ascending, then current shape descending. -/
def windowedInputAt (s sp : Shape) (x : List F32) (i : Nat) : F32 :=
  if i < 1024 then windowedAt x (wlong sp) i i else windowedAt x (wlong s) i (2047 - i)

/-- `Windowed(s, sp, x)` (R237). -/
def windowedInput (s sp : Shape) (x : List F32) : List F32 := (List.range (2 * frameLen)).map (windowedInputAt s sp x)

/-- The effect of `FFB` (R236). -/
def ffbEffect (sh shp : Shape) (inp out : Word) (s : State) : State :=
  let w := windowedInput sh shp (s.mem.readWords inp.toNat (2 * frameLen))
  let r := mdct .m1 s.cfft1 w
  ((s.storeWords out r.out).setScratch .m1 r).setWindowed w

/-- `FFB ws, shape, shape_prev, @IN, @OUT` (R236). For `ws` other than OnlyLong the first check raises `E_WINSEQ`, so the effect is
only that of OnlyLong. -/
def execFfb (ws : WindowSequence) (shape shapePrev : Shape) (inp out : Word) (s : State) : Host.Outcome State Fault Refusal :=
  s.perform (.ffb ws shape shapePrev inp out) (ffbEffect shape shapePrev inp out)

end Sys2Proof.Machine
end

