-- ==== Sys2Proof/Machine/Multiplier.lean ====
section
/-! DEFINITION. `CMUL`, the twiddle multiplier as a command (R131, `40_complex_primitive.md`). -/

namespace Sys2Proof.Machine

/-- The two words `CMUL` writes (R131). -/
def cmulWords (m : Memory) (src : Nat) : List Word :=
  let y := cm (m.readWord src) (m.readWord (src + 1)) (m.readWord (src + 2)) (m.readWord (src + 3))
  [y.1, y.2]

/-- `CMUL @SRC, @DST` (R131). -/
def execCmul (src dst : Word) (s : State) : Host.Outcome State Fault Refusal :=
  s.perform (.cmul src dst) fun s => s.storeWords dst (cmulWords s.mem src.toNat)

end Sys2Proof.Machine
end

