-- ==== Sys2Proof/Machine/Pass.lean ====
section
/-! DEFINITION. The six PASS commands (R164 to R171, `42_butterflies.md`): one butterfly pass from `SRC` to `DST` with the twiddle
table of a context. -/

namespace Sys2Proof.Machine

/-- The effect of a PASS command (R164): `n` complex values read, the pass, `n` complex values written; the context is only read. -/
def passEffect (r : Radix) (isign : Sign) (c : Ctx) (iw ido l1 : BitVec 16) (src dst : Word) (s : State) : State :=
  s.storeComplex dst
    (passOf r isign ido.toNat l1.toNat (s.mem.readComplex src.toNat (passPoints r.toNat ido l1)) (s.ctx c).tw iw.toNat)

/-- `PASS2P` (R165). -/
def execPass2p (c : Ctx) (iw ido l1 : BitVec 16) (src dst : Word) (s : State) : Host.Outcome State Fault Refusal :=
  s.perform (.pass2p c iw ido l1 src dst) (passEffect .r2 .pos c iw ido l1 src dst)

/-- `PASS2N` (R166). -/
def execPass2n (c : Ctx) (iw ido l1 : BitVec 16) (src dst : Word) (s : State) : Host.Outcome State Fault Refusal :=
  s.perform (.pass2n c iw ido l1 src dst) (passEffect .r2 .neg c iw ido l1 src dst)

/-- `PASS4P` (R169). -/
def execPass4p (c : Ctx) (iw ido l1 : BitVec 16) (src dst : Word) (s : State) : Host.Outcome State Fault Refusal :=
  s.perform (.pass4p c iw ido l1 src dst) (passEffect .r4 .pos c iw ido l1 src dst)

/-- `PASS4N` (R170). -/
def execPass4n (c : Ctx) (iw ido l1 : BitVec 16) (src dst : Word) (s : State) : Host.Outcome State Fault Refusal :=
  s.perform (.pass4n c iw ido l1 src dst) (passEffect .r4 .neg c iw ido l1 src dst)

/-- `PASS3` (R167). -/
def execPass3 (c : Ctx) (isign : Sign) (iw ido l1 : BitVec 16) (src dst : Word) (s : State) :
    Host.Outcome State Fault Refusal :=
  s.perform (.pass3 c isign iw ido l1 src dst) (passEffect .r3 isign c iw ido l1 src dst)

/-- `PASS5` (R171). -/
def execPass5 (c : Ctx) (isign : Sign) (iw ido l1 : BitVec 16) (src dst : Word) (s : State) :
    Host.Outcome State Fault Refusal :=
  s.perform (.pass5 c isign iw ido l1 src dst) (passEffect .r5 isign c iw ido l1 src dst)

end Sys2Proof.Machine
end

