-- ==== Sys2Proof/Machine/System.lean ====
section
/-! DEFINITION. The system commands `NOP` and `HALT` (R252, R253, `46_system.md`). -/

namespace Sys2Proof.Machine

/-- `NOP` (R252): nothing but `CP + 4`. -/
def execNop (s : State) : Host.Outcome State Fault Refusal := s.perform .nop id

/-- `HALT` (R253): `CP + 4; BUSY <- 0; DONE <- 1`. -/
def execHalt (s : State) : Host.Outcome State Fault Refusal := s.perform .halt State.haltRun

end Sys2Proof.Machine
end

