-- ==== Sys2Proof/Machine/Dispatch.lean ====
section
/-! DEFINITION. One arm per command: the meaning of each (R98). -/

namespace Sys2Proof.Machine

-- The state an arm takes is that of a fetched command: CP holds the descriptor's address (R251).
def exec (i : Instr) (s : State) : Host.Outcome State Fault Refusal :=
  match i with
  | .nop => Sys2Proof.Machine.execNop s
  | .halt => Sys2Proof.Machine.execHalt s
  | .cfftInit n => Sys2Proof.Machine.execCfftInit n s
  | .fbInit frameLength => Sys2Proof.Machine.execFbInit frameLength s
  | .cfftFwd c a => Sys2Proof.Machine.execCfftFwd c a s
  | .cfftBwd c a => Sys2Proof.Machine.execCfftBwd c a s
  | .imdct m src dst => Sys2Proof.Machine.execImdct m src dst s
  | .mdct m src dst => Sys2Proof.Machine.execMdct m src dst s
  | .ifb ws shape shapePrev freq time ovl => Sys2Proof.Machine.execIfb ws shape shapePrev freq time ovl s
  | .ffb ws shape shapePrev inp out => Sys2Proof.Machine.execFfb ws shape shapePrev inp out s
  | .cmul src dst => Sys2Proof.Machine.execCmul src dst s
  | .pass2p c iw ido l1 src dst => Sys2Proof.Machine.execPass2p c iw ido l1 src dst s
  | .pass2n c iw ido l1 src dst => Sys2Proof.Machine.execPass2n c iw ido l1 src dst s
  | .pass4p c iw ido l1 src dst => Sys2Proof.Machine.execPass4p c iw ido l1 src dst s
  | .pass4n c iw ido l1 src dst => Sys2Proof.Machine.execPass4n c iw ido l1 src dst s
  | .pass3 c isign iw ido l1 src dst => Sys2Proof.Machine.execPass3 c isign iw ido l1 src dst s
  | .pass5 c isign iw ido l1 src dst => Sys2Proof.Machine.execPass5 c isign iw ido l1 src dst s

end Sys2Proof.Machine
end

