-- ==== Sys2Proof/Machine/HostPort.lean ====
section
/-! DEFINITION. The host's accesses: the register aperture (R30 to R38), the memory aperture (R62), held accesses (R39), the access
widths (R64, R66); `10_state.md`, `20_memory.md`. -/

namespace Sys2Proof.Machine

/-- The constant `ID` (R31). -/
def idWord : Word := 0x0AAC0002

/-- A read of the register at word offset `r` while `BUSY = 0` (R30 to R38); it changes nothing (R65). -/
def State.readRegister (s : State) (r : Nat) : Word :=
  match r with
  | 0 => idWord
  | 1 => 0
  | 2 => s.statusWord
  | 3 => s.cp
  | 4 => s.fcode.zeroExtend 32
  | 5 => s.fcp
  | 6 => s.finfo
  | _ => 0

/-- A write of `CTRL` (R32): `SRST` first, else `GO` when no fault is recorded, else nothing. -/
def State.writeCtrl (s : State) (v : Word) : State :=
  if v.getLsbD 1 then s.resetKeepingDmem
  else if v.getLsbD 0 && !s.fault then s.startRun
  else s

/-- A write of the register at word offset `r` while `BUSY = 0`: only `CTRL` and `CP` take it (R30, R34, R38). -/
def State.writeRegister (s : State) (r : Nat) (v : Word) : State :=
  match r with
  | 1 => s.writeCtrl v
  | 3 => { s with cp := v }
  | _ => s

/-- The read at byte offset `off` of the aperture `ap` completes with the value `v`. -/
def State.answer (s : State) (ap : Aperture) (off : Nat) (v : Word) : State := { s with hostReads := ⟨ap, off, v⟩ :: s.hostReads }

/-- A supported access to the memory aperture at word address `a` (R62): a read (`none`) or a write. -/
def State.performMemory (s : State) (a : Nat) (v : Option Word) : Host.Outcome State Fault Refusal :=
  if s.params.dmemWords ≤ a then .fault (.hostOutsideDmem a)
  else
    match v with
    | none => .next (s.answer .memory (4 * a) (s.mem.readWord a))
    | some w => .next { s with mem := s.mem.writeWords a [w] }

/-- One access of the host performed while `BUSY = 0`. An access that is not one aligned word is refused (R64, R66). -/
def State.performAccess (s : State) : HostAccess → Host.Outcome State Fault Refusal
  | .read ap off size =>
    if size ≠ 4 ∨ off % 4 ≠ 0 then .refused (.hostAccessUnsupported off size)
    else
      match ap with
      | .registers => .next (s.answer .registers off (s.readRegister (off / 4)))
      | .memory => s.performMemory (off / 4) none
  | .write ap off size v =>
    if size ≠ 4 ∨ off % 4 ≠ 0 then .refused (.hostAccessUnsupported off size)
    else
      match ap with
      | .registers => .next (s.writeRegister (off / 4) v)
      | .memory => s.performMemory (off / 4) (some v)

/-- The host's turn while `BUSY = 0`: its oldest access is performed; with none waiting nothing changes (R335). -/
def State.hostStep (s : State) : Host.Outcome State Fault Refusal :=
  match s.hostQueue with
  | [] => .next s
  | a :: rest => State.performAccess { s with hostQueue := rest } a

/-- The host's accesses that have not completed, those it makes at this step last. -/
def State.outstanding (s : State) : List HostAccess := s.hostQueue ++ s.hostIn.headD []

/-- The inputs of a step are taken: the reset line and the host's accesses move on by one place, and while `BUSY = 1` every outstanding read
of `STATUS`, wherever it stands among the held accesses, completes at once with 1; every other access stays held (R39). -/
def State.sampleInputs (s : State) : State :=
  { s with
    resetIn := s.resetIn.tail
    hostIn := s.hostIn.tail
    hostQueue := if s.busy then s.outstanding.filter (· ≠ .statusPoll) else s.outstanding
    hostReads := if s.busy then List.replicate (s.outstanding.count .statusPoll) ⟨.registers, 8, 1⟩ ++ s.hostReads else s.hostReads }

end Sys2Proof.Machine
end

