-- ==== Sys2Proof/Machine/Sequencer.lean ====
section
/-! DEFINITION. The sequencer's fetch and decode (R110, R251; `30_encoding.md`, `46_system.md`), and the reset input, also in the middle
of a run (R340, R341; `70_reset_and_hazards.md`). -/

namespace Sys2Proof.Machine

/-- The descriptor at word address `a` (R110). -/
def State.descriptorAt (s : State) (a : Nat) : Descriptor :=
  { w0 := s.mem.readWord a, w1 := s.mem.readWord (a + 1), w2 := s.mem.readWord (a + 2), w3 := s.mem.readWord (a + 3) }

/-- Fetch and decode at `CP` (R110, R251): the command, or the fault that fetching or decoding raises. -/
def State.fetch (s : State) : Except (FaultCode × Word) Instr :=
  if s.params.dmemWords ≤ s.cp.toNat + 3 then .error (.addr, s.cp)
  else
    match decodeDescriptor (s.descriptorAt s.cp.toNat) with
    | .error _ => .error (.illegal, (s.descriptorAt s.cp.toNat).w0)
    | .ok i => .ok i

/-- The reset line's level at this step (R340(b)). -/
def State.resetAsserted (s : State) : Bool := s.resetIn.headD false


/-- Every word of a region becomes a free value (R341); log entry 11. -/
def State.forgetRegion (s : State) (r : Region) : State :=
  { s.storeWords r.base ((List.range r.len).map fun j => Config.freeWord (s.freeCount + j)) with
    freeCount := s.freeCount + r.len }

/-- The regions the command in progress writes, `out` and `inout` (R341); none where it faults, or cannot be fetched (R320). -/
def State.writtenRegions (s : State) : List Region :=
  match s.fetch with
  | .error _ => []
  | .ok i =>
    match firstFailure (checks s i) with
    | some _ => []
    | none => (regions s i).filter fun r => r.dir != .input

/-- The reset input acts (R340, R341): a command in progress leaves its written regions unspecified; then the reset. -/
def State.resetInput (s : State) : State :=
  (if s.busy then s.writtenRegions.foldl State.forgetRegion s else s).resetKeepingDmem

/-- The four words of a descriptor stored at word address `a`. -/
def State.storeDescriptor (s : State) (a : Word) (d : Descriptor) : State := s.storeWords a [d.w0, d.w1, d.w2, d.w3]

/-- The four words of a descriptor stored at `CP` and a run in progress there, as the host's loading of the list and an accepted
`CTRL.GO` leave them (R32, R250; log entry 13). The reset line is low. -/
def State.loadAndGo (s : State) (d : Descriptor) : State :=
  { s.storeDescriptor s.cp d with
    busy := true, done := false, fault := false, resetIn := [] }

end Sys2Proof.Machine
end

