-- ==== Sys2Proof/Machine/Run.lean ====
section
/-! DEFINITION. Whose turn it is: the reset line, else a command of the running sequencer, else the host's next access (R20, R39, R250,
R251, R341). -/

namespace Sys2Proof.Machine

/-- A step of the running sequencer (R251): one command is fetched and executed to completion, or its fetch raises a fault. -/
def State.sequencerStep (s : State) : Host.Outcome State Fault Refusal :=
  match s.fetch with
  | .error e => .next (s.raise e.1 e.2)
  | .ok i => exec i s

/-- One turn. The inputs are taken, polls of a run answered (R39); then the reset input wins (R341); else while `BUSY = 1` the sequencer runs,
and while `BUSY = 0` the host has its turn (R335). -/
def State.turn (s : State) : Host.Outcome State Fault Refusal :=
  if s.resetAsserted then .next s.sampleInputs.resetInput
  else if s.busy then s.sampleInputs.sequencerStep
  else s.sampleInputs.hostStep

end Sys2Proof.Machine
end

