-- ==== Sys2Proof/Machine/Step.lean ====
section
/-! DEFINITION. One step of the machine, and the state whose next step runs a given instruction. -/

namespace Sys2Proof.Machine

/-- One step (R20, R39, R251, R341): the turn of the reset line, the sequencer or the host. -/
def step (s : State) : Host.Outcome State Fault Refusal := s.turn

/-- `s` with the descriptor of the number `w` stored at `CP` and a run in progress there, so that the very next step fetches and runs
it (log entry 13). -/
def State.withFetchWord (s : State) (nbits w : Nat) : State := s.loadAndGo (descriptorOfNat nbits w)

end Sys2Proof.Machine
end

