-- ==== Sys2Proof/WellFormed.lean ====
section
/-! DEFINITION. Which descriptors are legal: the six conditions (a) to (f) of R100 (`30_encoding.md`), one check each, over the
fields of R91 (`Decode.lean`) and the unused fields of R92. The operand types of `Instr` already exclude every value these conditions exclude,
so every term of `Instr` is well formed and what can be ill formed is a descriptor. The decoder of `Decode.lean` does not use
these checks: it follows R99's masks. -/

namespace Sys2Proof

/-- The seventeen values of `OPC` (R98). -/
def knownOpcodes : List (BitVec 8) :=
  [0x00, 0x01, 0x10, 0x12, 0x20, 0x21, 0x22, 0x23, 0x30, 0x31, 0x40, 0x42, 0x43, 0x44, 0x45, 0x46, 0x47]

/-- The opcodes of format P (R92). -/
def passOpcodes : List (BitVec 8) := [0x42, 0x43, 0x44, 0x45, 0x46, 0x47]

/-- Condition (a) of R100 does not hold: `OPC` is one of the seventeen. -/
def Descriptor.opcodeKnown (d : Descriptor) : Bool := knownOpcodes.contains d.opc

/-- Condition (b) of R100 does not hold: `W0[19:16] = 0`. -/
def Descriptor.reservedZero (d : Descriptor) : Bool := d.reserved == 0

/-- Condition (c) of R100 does not hold: every field and word R92 marks `-` for the command is 0. -/
def Descriptor.unusedZero (d : Descriptor) : Bool :=
  (d.sel == 0 || !([0x00, 0x01, 0x12, 0x40].contains d.opc)) &&
  (d.b21 == 0 || [0x30, 0x31, 0x46, 0x47].contains d.opc) &&
  (d.b20 == 0 || [0x30, 0x31].contains d.opc) &&
  (d.iw == 0 || passOpcodes.contains d.opc) &&
  (d.w1 == 0 || !([0x00, 0x01].contains d.opc)) &&
  (d.w2 == 0 || !([0x00, 0x01, 0x10, 0x12, 0x20, 0x21].contains d.opc)) &&
  (d.w3 == 0 || (0x30 :: passOpcodes).contains d.opc)

/-- Condition (d) of R100 does not hold: `SEL` is not 3 in formats C and P. -/
def Descriptor.contextLegal (d : Descriptor) : Bool :=
  !((0x20 :: 0x21 :: passOpcodes).contains d.opc) || d.sel != 3

/-- Condition (e) of R100 does not hold: `SEL` is below 2 in format M. -/
def Descriptor.slotLegal (d : Descriptor) : Bool :=
  !([0x22, 0x23].contains d.opc) || decide (d.sel.toNat < 2)

/-- Condition (f) of R100 does not hold: `SEL = 2` for `CFFT_INIT`. -/
def Descriptor.userContext (d : Descriptor) : Bool :=
  d.opc != 0x10 || d.sel == 2

/-- A descriptor is legal when none of the conditions of R100 holds. -/
def Descriptor.legal (d : Descriptor) : Bool :=
  d.opcodeKnown && d.reservedZero && d.unusedZero && d.contextLegal && d.slotLegal && d.userContext

end Sys2Proof
end

