-- ==== Sys2Proof/Safety.lean ====
section
/-! DEFINITION. What a sound state is (`State.Inv`), what a command needs to execute, and the relations between states and memories in
which the statements are written. -/

namespace Sys2Proof.Machine

/-! ### Sound states -/

/-- A context is what construction leaves for the size `N` (R148, R150, R200). -/
structure Context.Built (c : Context) (N : Nat) : Prop where
  size : c.N = N
  count : c.nf = (factorize N).length
  factors : c.fac = factorize N
  twiddles : c.tw = twiddleFill N (factorize N)

/-- The invariant of the machine: what every rule keeps true of a state between steps. -/
structure State.Inv (s : State) : Prop where
  /-- `DMEM_WORDS` is in its legal range (R12). -/
  paramsLegal : s.params.legal = true
  /-- The memory has its canonical form. -/
  memWf : s.mem.wf = true
  /-- No byte lies outside `DMEM` (R60). -/
  memInside : ∀ c ∈ s.mem, c.1 < 4 * s.params.dmemWords
  /-- At most one of `BUSY`, `DONE`, `FAULT` is 1 (R33). -/
  oneFlag : (s.busy = true → s.done = false ∧ s.fault = false) ∧ (s.done = true → s.fault = false)
  /-- The fault registers are 0 while `FAULT = 0` (R35, R36, R37). -/
  noFault : s.fault = false → s.fcode = 0 ∧ s.fcp = 0 ∧ s.finfo = 0
  /-- The fault code is one of 1 to 9 while `FAULT = 1` (R35). -/
  faulted : s.fault = true → 1 ≤ s.fcode.toNat ∧ s.fcode.toNat ≤ 9
  /-- The user context is constructed for a size `CFFT_INIT` accepts while `CU_V = 1` (R40). -/
  user : s.cuV = true → accepted s.cfft2.N = true ∧ s.cfft2.Built s.cfft2.N
  /-- The filter bank's contexts are constructed for 64 and 512 while `FB_V = 1` (R40, R143). -/
  filterBank : s.fbV = true → s.cfft0.Built 64 ∧ s.cfft1.Built 512

/-! ### Operands -/

/-- The region of `n` words at `a` lies inside `DMEM` (R112). -/
def Inside (s : State) (a : Word) (n : Nat) : Prop := a.toNat + n ≤ s.params.dmemWords

/-- Two regions do not intersect (R113). -/
def Apart (a : Word) (n : Nat) (b : Word) (m : Nat) : Prop := a.toNat + n ≤ b.toNat ∨ b.toNat + m ≤ a.toNat

/-- The conditions of R164 under which a PASS command of radix `r` executes. -/
structure PassReady (s : State) (r : Nat) (c : Ctx) (iw ido l1 : BitVec 16) (src dst : Word) : Prop where
  valid : s.ctxValid c = true
  idoPos : ido ≠ 0
  l1Pos : l1 ≠ 0
  size : r * l1.toNat * ido.toNat ≤ 512
  five : r = 5 → ido = 1
  table : iw.toNat + (r - 1) * ido.toNat + 1 ≤ (s.ctx c).N
  srcInside : Inside s src (2 * (r * l1.toNat * ido.toNat))
  dstInside : Inside s dst (2 * (r * l1.toNat * ido.toNat))
  apart : Apart src (2 * (r * l1.toNat * ido.toNat)) dst (2 * (r * l1.toNat * ido.toNat))

/-- The conditions of R223 under which `IFB` executes. -/
structure IfbReady (s : State) (freq time ovl : Word) : Prop where
  valid : s.fbV = true
  freqInside : Inside s freq 1024
  timeInside : Inside s time 1024
  ovlInside : Inside s ovl 1024
  freqTime : Apart freq 1024 time 1024
  freqOvl : Apart freq 1024 ovl 1024
  timeOvl : Apart time 1024 ovl 1024

/-- Word `i` of the array at `a`: `RdF(a + i)` (R16). -/
def wordAt (m : Memory) (a : Word) (i : Nat) : F32 := m.readWord (a.toNat + i)

/-- Element `i` of the complex array at `a`: `RdC(a, i)` (R16). -/
def complexAt (m : Memory) (a : Word) (i : Nat) : Cplx := ⟨m.readWord (a.toNat + 2 * i), m.readWord (a.toNat + 2 * i + 1)⟩

/-- The byte address `k` lies outside the `n` words at `a` (R63). -/
def Outside (a : Word) (n k : Nat) : Prop := ¬ (4 * a.toNat ≤ k ∧ k < 4 * (a.toNat + n))

/-- Every byte outside the `n` words at `a` reads as before. -/
def SameOutside (m m' : Memory) (a : Word) (n : Nat) : Prop := ∀ k, Outside a n k → m'.readByte k = m.readByte k

/-! ### States -/

/-- The state after a command that changed nothing but memory, which is now `m`, and `CP` (R24). -/
def State.after (s : State) (m : Memory) : State := { s with mem := m, cp := s.cp + 4 }

/-- The state in which the inputs have moved on by one place and the host's accesses `rest` are left outstanding. -/
def State.leaving (s : State) (rest : List HostAccess) : State :=
  { s with hostQueue := rest, hostIn := s.hostIn.tail, resetIn := s.resetIn.tail }

/-- The state after fault entry with the code `code` and the information word `info` (R310). -/
def State.tookFault (s : State) (code : BitVec 4) (info : Word) : State :=
  { s with fcode := code, fcp := s.cp, finfo := info, fault := true, busy := false }

/-- Two states differ at most in the scratch arrays of R57. -/
structure SameButScratch (s t : State) : Prop where
  rest : t = { s with
    cfft0 := t.cfft0, cfft1 := t.cfft1, cfft2 := t.cfft2, z0 := t.z0, z1 := t.z1,
    transf := t.transf, windowed := t.windowed }
  contexts : ∀ c, (t.ctx c).N = (s.ctx c).N ∧ (t.ctx c).nf = (s.ctx c).nf ∧ (t.ctx c).fac = (s.ctx c).fac ∧
    (t.ctx c).tw = (s.ctx c).tw

/-- The stages of R190 one after another on one array, without the two buffers and the flag `na`. -/
def plainStages (N : Nat) (tw : List Cplx) (isign : Sign) : List Radix → Nat → Nat → List Cplx → List Cplx
  | [], _, _, buf => buf
  | r :: rest, l1, iw, buf =>
    plainStages N tw isign rest (r.toNat * l1) (iw + (r.toNat - 1) * (N / (r.toNat * l1)))
      (passOf r isign (N / (r.toNat * l1)) l1 buf tw iw)

/-- The transform of `N` points with the tables of a context: its stages in the order of its factor list (R190). -/
def transform (c : Context) (isign : Sign) (buf : List Cplx) : List Cplx := plainStages c.N c.tw isign c.fac 1 0 buf

/-- The machine after `n` steps, where each of them answers a next state. -/
def steps : Nat → State → Option State
  | 0, s => some s
  | n + 1, s =>
    match step s with
    | .next t => steps n t
    | _ => none

end Sys2Proof.Machine
end

