-- ==== Sys2Proof/Certificates/Slice0/Obligations.lean ====
section
/-! DEFINITION. The statements for the provers, from the numbered rules of `spec/`. -/

open Sys2Proof Sys2Proof.Machine

/-! ### Encoding -/

/-- Every command encodes to sixteen bytes that decode to it, whatever follows them (R90, R91, R92, R99). -/
def Obligations.DecodeEncodeRoundTrip : Prop :=
  ∀ (i : Instr) (rest : List Byte), decode ((encode i).bytes ++ rest) = .ok i

/-- No two descriptors decode to the same command: what decodes is the encoding of its command (R92, R99). -/
def Obligations.DecodedIsTheEncoding : Prop :=
  ∀ (d : Descriptor) (i : Instr), decodeDescriptor d = .ok i → encode i = d

/-- The masks and matches of R99 accept exactly the descriptors for which none of the six conditions of R100 holds. -/
def Obligations.DecodesExactlyTheLegal : Prop :=
  ∀ d : Descriptor, (∃ i, decodeDescriptor d = .ok i) ↔ d.legal = true

/-- Words written out by hand from R99 decode to the command they stand for. -/
def Obligations.WrittenOutWordsDecode : Prop :=
  decodeDescriptor ⟨0x00000000, 0, 0, 0⟩ = .ok .nop ∧
  decodeDescriptor ⟨0x10800000, 0x200, 0, 0⟩ = .ok (.cfftInit 0x200) ∧
  decodeDescriptor ⟨0x21400000, 0x100, 0, 0⟩ = .ok (.cfftBwd .c1 0x100) ∧
  decodeDescriptor ⟨0x22400000, 0x1000, 0x2000, 0⟩ = .ok (.imdct .m1 0x1000 0x2000) ∧
  decodeDescriptor ⟨0x30B00000, 0x1400, 0x4400, 0x7000⟩ = .ok (.ifb .eightShort .kbd .kbd 0x1400 0x4400 0x7000) ∧
  decodeDescriptor ⟨0x40000000, 0x100, 0x200, 0⟩ = .ok (.cmul 0x100 0x200) ∧
  decodeDescriptor ⟨0x46A00006, 0x100, 0x200, 0x00010003⟩ = .ok (.pass3 .c2 .neg 6 1 3 0x100 0x200)

/-! ### Steps and faults -/

/-- A step of a run executes the command that the sixteen bytes at `CP` decode to (R110, R251). The model's choice, log entries 8, 9 and 10:
one step is one command, and it runs on the state in which the step's inputs have been taken: the reset line, sampled low, and the host's
accesses have moved on by one place, and every `STATUS` poll has been answered (R39). -/
def Obligations.StepRunsDecodedCommand : Prop :=
  ∀ (s : State) (i : Instr), s.busy = true → s.resetIn.headD false = false → s.cp.toNat + 3 < s.params.dmemWords →
    decode ((List.range 16).map fun j => s.mem.readByte (4 * s.cp.toNat + j)) = .ok i →
    step s = exec i s.sampleInputs

/-- The two faults before a command is known (R25, R110, R302, R303): a descriptor that would not lie inside `DMEM` is `E_ADDR` with
`FINFO = CP`, an illegal one `E_ILLEGAL` with `FINFO = W0`; nothing else of the CORE changes (R320). The model's choice, log entries 9 and
10: the reset line, sampled low, and the host's accesses move on by one place and the `STATUS` polls are answered (R39) in the same step. -/
def Obligations.FetchAndDecodeFaults : Prop :=
  ∀ s : State, s.busy = true → s.resetIn.headD false = false →
    (s.params.dmemWords ≤ s.cp.toNat + 3 → step s = .next (s.sampleInputs.tookFault 2 s.cp)) ∧
    (s.cp.toNat + 3 < s.params.dmemWords → (s.descriptorAt s.cp.toNat).legal = false →
      step s = .next (s.sampleInputs.tookFault 1 (s.mem.readWord s.cp.toNat)))

/-- Every command answers a next state: either it completes, with `CP + 4`, `FAULT` and the fault registers as they were, or it takes a
fault with a code of 1 to 9, which writes `FCODE`, `FCP`, `FINFO`, `FAULT` and `BUSY` and leaves everything else as it was (R24, R310,
R320). -/
def Obligations.CommandCompletesOrFaults : Prop :=
  ∀ (i : Instr) (s : State),
    (∃ t, exec i s = .next t ∧ t.cp = s.cp + 4 ∧ t.fault = s.fault ∧ t.fcode = s.fcode ∧ t.fcp = s.fcp ∧ t.finfo = s.finfo) ∨
    (∃ code info, 1 ≤ code.toNat ∧ code.toNat ≤ 9 ∧ exec i s = .next (s.tookFault code info))

/-- Range check (R112): once a command's own checks pass, the first region that does not lie inside `DMEM` is a fault `E_ADDR` with
its base. -/
def Obligations.FirstRegionOutsideFaults : Prop :=
  ∀ (i : Instr) (s : State) (before after : List Region) (r : Region), firstFailure (commandChecks s i) = none →
    regions s i = before ++ r :: after → (∀ q ∈ before, q.base.toNat + q.len ≤ s.params.dmemWords) →
    s.params.dmemWords < r.base.toNat + r.len → exec i s = .next (s.tookFault 2 r.base)

/-- Disjointness check (R113): with all regions inside `DMEM`, the first pair in the order (1,2), (1,3), (2,3) that intersects is a
fault `E_OVERLAP` with the base of the second region of the pair. -/
def Obligations.FirstOverlapFaults : Prop :=
  ∀ (i : Instr) (s : State) (p q : Region) (rest : List Region), firstFailure (commandChecks s i) = none →
    (∀ r ∈ regions s i, r.base.toNat + r.len ≤ s.params.dmemWords) → regions s i = p :: q :: rest →
    (¬ Apart p.base p.len q.base q.len → exec i s = .next (s.tookFault 3 q.base)) ∧
    (∀ r, rest = [r] → Apart p.base p.len q.base q.len →
      (¬ Apart p.base p.len r.base r.len → exec i s = .next (s.tookFault 3 r.base)) ∧
      (Apart p.base p.len r.base r.len → ¬ Apart q.base q.len r.base r.len → exec i s = .next (s.tookFault 3 r.base)))

/-- The operand faults of `IFB` in their order (R112, R113, R223): the first of `FREQ`, `TIME`, `OVL` outside `DMEM` is `E_ADDR` with that
base; then `TIME` on `FREQ` is `E_OVERLAP` with `TIME`, and `OVL` on either is `E_OVERLAP` with `OVL`. -/
def Obligations.IfbOperandFaults : Prop :=
  ∀ (s : State) (ws : WindowSequence) (sh shp : Shape) (freq time ovl : Word), s.fbV = true →
    (¬ Inside s freq 1024 → exec (.ifb ws sh shp freq time ovl) s = .next (s.tookFault 2 freq)) ∧
    (Inside s freq 1024 → ¬ Inside s time 1024 → exec (.ifb ws sh shp freq time ovl) s = .next (s.tookFault 2 time)) ∧
    (Inside s freq 1024 → Inside s time 1024 → ¬ Inside s ovl 1024 →
      exec (.ifb ws sh shp freq time ovl) s = .next (s.tookFault 2 ovl)) ∧
    (Inside s freq 1024 → Inside s time 1024 → Inside s ovl 1024 → ¬ Apart freq 1024 time 1024 →
      exec (.ifb ws sh shp freq time ovl) s = .next (s.tookFault 3 time)) ∧
    (Inside s freq 1024 → Inside s time 1024 → Inside s ovl 1024 → Apart freq 1024 time 1024 →
      ¬ (Apart freq 1024 ovl 1024 ∧ Apart time 1024 ovl 1024) →
      exec (.ifb ws sh shp freq time ovl) s = .next (s.tookFault 3 ovl))

/-- A command whose instance is not constructed faults `E_NOTREADY` with its `SEL` field, 0 for `FFB`, whatever its operands are
(R305). -/
def Obligations.InstanceNotReadyFaults : Prop :=
  ∀ (s : State) (sg : Sign) (m : Slot) (ws : WindowSequence) (sh shp : Shape) (iw ido l1 : BitVec 16) (x y z : Word),
    (∀ c : Ctx, s.ctxValid c = false →
      exec (.cfftFwd c x) s = .next (s.tookFault 4 (c.sel.zeroExtend 32)) ∧
      exec (.cfftBwd c x) s = .next (s.tookFault 4 (c.sel.zeroExtend 32)) ∧
      exec (.pass2p c iw ido l1 x y) s = .next (s.tookFault 4 (c.sel.zeroExtend 32)) ∧
      exec (.pass2n c iw ido l1 x y) s = .next (s.tookFault 4 (c.sel.zeroExtend 32)) ∧
      exec (.pass4p c iw ido l1 x y) s = .next (s.tookFault 4 (c.sel.zeroExtend 32)) ∧
      exec (.pass4n c iw ido l1 x y) s = .next (s.tookFault 4 (c.sel.zeroExtend 32)) ∧
      exec (.pass3 c sg iw ido l1 x y) s = .next (s.tookFault 4 (c.sel.zeroExtend 32)) ∧
      exec (.pass5 c sg iw ido l1 x y) s = .next (s.tookFault 4 (c.sel.zeroExtend 32))) ∧
    (s.fbV = false →
      exec (.imdct m x y) s = .next (s.tookFault 4 (m.sel.zeroExtend 32)) ∧
      exec (.mdct m x y) s = .next (s.tookFault 4 (m.sel.zeroExtend 32)) ∧
      exec (.ifb ws sh shp x y z) s = .next (s.tookFault 4 (ws.sel.zeroExtend 32)) ∧
      exec (.ffb .onlyLong sh shp x y) s = .next (s.tookFault 4 0))

/-- The forward filter bank with a window sequence other than OnlyLong faults `E_WINSEQ`, before any other check (R101, R309, R313). -/
def Obligations.ForwardWindowSequenceFaults : Prop :=
  ∀ (s : State) (sh shp : Shape) (inp out : Word),
    exec (.ffb .longStart sh shp inp out) s = .next (s.tookFault 8 1) ∧
    exec (.ffb .eightShort sh shp inp out) s = .next (s.tookFault 8 2) ∧
    exec (.ffb .longStop sh shp inp out) s = .next (s.tookFault 8 3)

/-- The argument faults of the PASS commands on a valid context: `E_PASSARG` with `FINFO = W3`, whatever the regions are (R164, R311). -/
def Obligations.PassArgumentFaults : Prop :=
  ∀ (s : State) (c : Ctx) (sg : Sign) (iw ido l1 : BitVec 16) (src dst : Word), s.ctxValid c = true →
    (let bad := fun r : Nat => ido = 0 ∨ l1 = 0 ∨ 512 < r * l1.toNat * ido.toNat ∨ (r = 5 ∧ ido ≠ 1) ∨
        (s.ctx c).N ≤ iw.toNat + (r - 1) * ido.toNat
     (bad 2 → exec (.pass2p c iw ido l1 src dst) s = .next (s.tookFault 9 (ido ++ l1))) ∧
     (bad 2 → exec (.pass2n c iw ido l1 src dst) s = .next (s.tookFault 9 (ido ++ l1))) ∧
     (bad 4 → exec (.pass4p c iw ido l1 src dst) s = .next (s.tookFault 9 (ido ++ l1))) ∧
     (bad 4 → exec (.pass4n c iw ido l1 src dst) s = .next (s.tookFault 9 (ido ++ l1))) ∧
     (bad 3 → exec (.pass3 c sg iw ido l1 src dst) s = .next (s.tookFault 9 (ido ++ l1))) ∧
     (bad 5 → exec (.pass5 c sg iw ido l1 src dst) s = .next (s.tookFault 9 (ido ++ l1))))

/-! ### System and construction -/

/-- `NOP` changes `CP` alone (R252); `HALT` ends the run (R253). -/
def Obligations.NopAndHaltComplete : Prop :=
  ∀ s : State, exec .nop s = .next { s with cp := s.cp + 4 } ∧
    exec .halt s = .next { s with cp := s.cp + 4, busy := false, done := true }

/-- The sizes `CFFT_INIT` accepts: 2 to 512, a product of 2, 3 and at most one 5; they are the 53 of R146. -/
def Obligations.AcceptedSizes : Prop :=
  ∀ N : Nat,
    (accepted N = true ↔ 2 ≤ N ∧ N ≤ 512 ∧ ∃ a b c, c ≤ 1 ∧ N = 2 ^ a * 3 ^ b * 5 ^ c) ∧
    (accepted N = true ↔ N ∈ [2, 3, 4, 5, 6, 8, 9, 10, 12, 15, 16, 18, 20, 24, 27, 30, 32, 36, 40, 45, 48, 54, 60, 64, 72, 80, 81, 90,
      96, 108, 120, 128, 135, 144, 160, 162, 180, 192, 216, 240, 243, 256, 270, 288, 320, 324, 360, 384, 405, 432, 480, 486, 512])

/-- The factor list of an accepted size (R142): (a) its product is the size, (b), (c) a 2 stands only first and once, (d) then all 3s, all
4s, all 5s, (e) at most one 5, then last, (f) one to six factors. -/
def Obligations.FactorListProperties : Prop :=
  ∀ N : Nat, accepted N = true →
    ((factorize N).map Radix.toNat).prod = N ∧ 1 ≤ (factorize N).length ∧ (factorize N).length ≤ 6 ∧
    ∃ a b c d : Nat, a ≤ 1 ∧ d ≤ 1 ∧
      factorize N = List.replicate a .r2 ++ List.replicate b .r3 ++ List.replicate c .r4 ++ List.replicate d .r5

/-- The twiddle table of an accepted size has `N - 1` entries, and each stage's share is that of R148, R149: entry `m` of group `j` of the
stage after the factors `pre` is `TW((m * (j * l1)) % N, N)`, at the place where the shares of the factors `pre` end. -/
def Obligations.TwiddleTableLayout : Prop :=
  ∀ N : Nat, accepted N = true → (twiddleFill N (factorize N)).length = N - 1 ∧
    ∀ (pre : List Radix) (r : Radix) (post : List Radix), factorize N = pre ++ r :: post →
      ∀ j m : Nat, 1 ≤ j → j < r.toNat → m < N / ((pre.map Radix.toNat).prod * r.toNat) →
        elemC (twiddleFill N (factorize N))
            (N - N / (pre.map Radix.toNat).prod + (j - 1) * (N / ((pre.map Radix.toNat).prod * r.toNat)) + m) =
          tw (m * (j * (pre.map Radix.toNat).prod) % N) N

/-- `TW` depends only on the fraction `k/N`, and its values at no turn, an eighth, a quarter, a half and three quarters of a turn are the
exact ones of R270: no zero component is `-0`. -/
def Obligations.TwiddleDependsOnFraction : Prop :=
  (∀ k N c : Nat, k < N → 1 ≤ c → tw (k * c) (N * c) = tw k N) ∧
  ∀ N : Nat, 1 ≤ N →
    tw 0 N = ⟨0x3F800000, 0x00000000⟩ ∧
    (4 ∣ N → tw (N / 4) N = ⟨0x00000000, 0x3F800000⟩ ∧ tw (3 * N / 4) N = ⟨0x00000000, 0xBF800000⟩) ∧
    (2 ∣ N → tw (N / 2) N = ⟨0xBF800000, 0x00000000⟩) ∧
    (8 ∣ N → tw (N / 8) N = ⟨0x3F3504F3, 0x3F3504F3⟩)

/-- `CFFT_INIT` with a size of R146 replaces the user context, sets `CU_V` and changes nothing else but `CP` (R140, R150); with any other
size it faults `E_FACTOR` with `FINFO = N` (R147, R308). -/
def Obligations.CfftInitCompletes : Prop :=
  ∀ (s : State) (n : Word),
    (let good := 2 ≤ n.toNat ∧ n.toNat ≤ 512 ∧ ∃ a b c, c ≤ 1 ∧ n.toNat = 2 ^ a * 3 ^ b * 5 ^ c
     (good → exec (.cfftInit n) s = .next { s with
       cfft2 := { N := n.toNat, nf := (factorize n.toNat).length, fac := factorize n.toNat,
                  tw := twiddleFill n.toNat (factorize n.toNat), work := s.cfft2.work }
       cuV := true, cp := s.cp + 4 }) ∧
     (¬ good → exec (.cfftInit n) s = .next (s.tookFault 7 n)))

/-- `FB_INIT 1024` builds contexts 0 and 1 with the sizes and factors of R143, sets `FB_V` and changes nothing else but `CP` (R220). -/
def Obligations.FbInitCompletes : Prop :=
  ∀ s : State, exec (.fbInit 1024) s = .next { s with
    cfft0 := { N := 64, nf := 3, fac := [.r4, .r4, .r4], tw := twiddleFill 64 [.r4, .r4, .r4], work := s.cfft0.work }
    cfft1 := { N := 512, nf := 5, fac := [.r2, .r4, .r4, .r4, .r4], tw := twiddleFill 512 [.r2, .r4, .r4, .r4, .r4],
               work := s.cfft1.work }
    fbV := true, cp := s.cp + 4 }

/-- Every other frame length faults: the short size `2 * (FL / 8)` is tested completely before the long size `2 * FL`, divisibility by 8
before the table (R220, R306, R307). -/
def Obligations.FbInitRefuses : Prop :=
  ∀ (s : State) (fl : Word), fl ≠ 1024 →
    exec (.fbInit fl) s = .next (
      if 2 * (fl.toNat / 8) % 8 ≠ 0 then s.tookFault 5 (BitVec.ofNat 32 (2 * (fl.toNat / 8)))
      else if 2 * (fl.toNat / 8) ≠ 256 ∧ 2 * (fl.toNat / 8) ≠ 2048 then s.tookFault 6 (BitVec.ofNat 32 (2 * (fl.toNat / 8)))
      else if 2 * fl.toNat % 8 ≠ 0 then s.tookFault 5 (BitVec.ofNat 32 (2 * fl.toNat))
      else s.tookFault 6 (BitVec.ofNat 32 (2 * fl.toNat)))

/-- `FB_INIT 1024` on a constructed filter bank changes nothing but `CP` (R221). -/
def Obligations.FbInitIdempotent : Prop :=
  ∀ s : State, s.Inv → s.fbV = true → exec (.fbInit 1024) s = .next { s with cp := s.cp + 4 }

/-! ### Transforms -/

/-- The driver's two buffers and its flag cannot be seen: the result is the stages in the order of the factor list, one after another, and
what the work buffer held does not enter it (R43, R190, R193). -/
def Obligations.DriverIsItsStages : Prop :=
  ∀ (c : Context) (N : Nat) (sg : Sign) (buf : List Cplx), c.Built N → (cfftRun c buf sg).1 = transform c sg buf

/-- `CFFT_FWD` and `CFFT_BWD` on a valid context with a region inside `DMEM` (R191, R192): the region holds the transform of what it
held, every other byte of memory, and everything but memory, the context's work buffer and `CP`, is as before. -/
def Obligations.CfftCompletes : Prop :=
  ∀ (s : State) (c : Ctx) (a : Word), s.Inv → s.ctxValid c = true → Inside s a (2 * (s.ctx c).N) →
    ∀ (i : Instr) (sg : Sign), (i = .cfftFwd c a ∧ sg = .neg) ∨ (i = .cfftBwd c a ∧ sg = .pos) →
      ∃ mem work, exec i s = .next ((s.setWork c work).after mem) ∧ SameOutside s.mem mem a (2 * (s.ctx c).N) ∧
        ∀ q, q < (s.ctx c).N →
          complexAt mem a q = elemC (transform (s.ctx c) sg ((List.range (s.ctx c).N).map (complexAt s.mem a))) q

/-- The source's example (R196): a 4-point transform of four values `(1, 0)`, forward and backward, leaves `(4, 0)` and three times `(0, 0)`. -/
def Obligations.FourPointExample : Prop :=
  ∀ (s : State) (a : Word), s.cuV = true → s.cfft2.Built 4 → Inside s a 8 →
    (∀ q, q < 4 → complexAt s.mem a q = ⟨0x3F800000, 0⟩) →
    ∀ i : Instr, i = .cfftFwd .c2 a ∨ i = .cfftBwd .c2 a →
      ∃ t, exec i s = .next t ∧ complexAt t.mem a 0 = ⟨0x40800000, 0⟩ ∧ complexAt t.mem a 1 = ⟨0, 0⟩ ∧
        complexAt t.mem a 2 = ⟨0, 0⟩ ∧ complexAt t.mem a 3 = ⟨0, 0⟩

/-- `IMDCT` (R202): pre-rotation, backward transform and post-rotation with the roundings written out in R203, then the sixteen assignments
of R204; every other byte of memory, and everything but memory, the slot's scratch, its context's work buffer and `CP`, is as before. -/
def Obligations.ImdctCompletes : Prop :=
  ∀ (s : State) (m : Slot) (src dst : Word), s.Inv → s.fbV = true → Inside s src (mdctSize m / 2) → Inside s dst (mdctSize m) →
    Apart src (mdctSize m / 2) dst (mdctSize m) →
    ∃ (mem : Memory) (work z1 z2 z3 : List Cplx),
      exec (.imdct m src dst) s = .next (((s.setWork (slotCtx m) work).setZ m z3).after mem) ∧
      SameOutside s.mem mem dst (mdctSize m) ∧ z1.length = mdctSize m / 4 ∧ z3.length = mdctSize m / 4 ∧
      (∀ k, k < mdctSize m / 4 →
        let x := wordAt s.mem src (2 * k)
        let x' := wordAt s.mem src (mdctSize m / 2 - 1 - 2 * k)
        let w := elemC (rotTable m) k
        elemC z1 k = ⟨fsub (fmul x' w.re) (fmul x w.im), fadd (fmul x w.re) (fmul x' w.im)⟩) ∧
      z2 = transform (s.ctx (slotCtx m)) .pos z1 ∧
      (∀ k, k < mdctSize m / 4 →
        let z := elemC z2 k
        let w := elemC (rotTable m) k
        elemC z3 k = ⟨fsub (fmul z.re w.re) (fmul z.im w.im), fadd (fmul z.im w.re) (fmul z.re w.im)⟩) ∧
      (∀ k, k % 2 = 0 → k + 2 ≤ mdctSize m / 8 →
        let y := wordAt mem dst
        let Z := elemC z3
        let M2 := mdctSize m / 2
        let M4 := mdctSize m / 4
        let M8 := mdctSize m / 8
        y (2 * k) = (Z (M8 + k)).im ∧ y (2 + 2 * k) = (Z (M8 + 1 + k)).im ∧
        y (1 + 2 * k) = fneg (Z (M8 - 1 - k)).re ∧ y (3 + 2 * k) = fneg (Z (M8 - 2 - k)).re ∧
        y (M4 + 2 * k) = (Z k).re ∧ y (M4 + 2 + 2 * k) = (Z (1 + k)).re ∧
        y (M4 + 1 + 2 * k) = fneg (Z (M4 - 1 - k)).im ∧ y (M4 + 3 + 2 * k) = fneg (Z (M4 - 2 - k)).im ∧
        y (M2 + 2 * k) = (Z (M8 + k)).re ∧ y (M2 + 2 + 2 * k) = (Z (M8 + 1 + k)).re ∧
        y (M2 + 1 + 2 * k) = fneg (Z (M8 - 1 - k)).im ∧ y (M2 + 3 + 2 * k) = fneg (Z (M8 - 2 - k)).im ∧
        y (M2 + M4 + 2 * k) = fneg (Z k).im ∧ y (M2 + M4 + 2 + 2 * k) = fneg (Z (1 + k)).im ∧
        y (M2 + M4 + 1 + 2 * k) = (Z (M4 - 1 - k)).re ∧ y (M2 + M4 + 3 + 2 * k) = (Z (M4 - 2 - k)).re)

/-- `MDCT` (R207): fold, pre-rotation and scaling, forward transform, post-rotation and scatter of R208; every other byte of memory, and
everything but memory, the slot's scratch, its context's work buffer and `CP`, is as before. -/
def Obligations.MdctCompletes : Prop :=
  ∀ (s : State) (m : Slot) (src dst : Word), s.Inv → s.fbV = true → Inside s src (mdctSize m) → Inside s dst (mdctSize m / 2) →
    Apart src (mdctSize m) dst (mdctSize m / 2) →
    ∃ (mem : Memory) (work z1 z2 : List Cplx),
      exec (.mdct m src dst) s = .next (((s.setWork (slotCtx m) work).setZ m z2).after mem) ∧
      SameOutside s.mem mem dst (mdctSize m / 2) ∧ z1.length = mdctSize m / 4 ∧
      (let x := wordAt s.mem src
       let M := mdctSize m
       let sc : F32 := if m = .m0 then 0x43800000 else 0x45000000
       ∀ k, k < M / 8 →
        (let ur := fadd (x (M - M / 4 - 1 - 2 * k)) (x (M - M / 4 + 2 * k))
         let ui := fsub (x (M / 4 + 2 * k)) (x (M / 4 - 1 - 2 * k))
         let w := elemC (rotTable m) k
         elemC z1 k = ⟨fmul (fadd (fmul ur w.re) (fmul ui w.im)) sc, fmul (fsub (fmul ui w.re) (fmul ur w.im)) sc⟩) ∧
        (let vr := fsub (x (M / 2 - 1 - 2 * k)) (x (2 * k))
         let vi := fadd (x (M / 2 + 2 * k)) (x (M - 1 - 2 * k))
         let w := elemC (rotTable m) (k + M / 8)
         elemC z1 (k + M / 8) = ⟨fmul (fadd (fmul vr w.re) (fmul vi w.im)) sc, fmul (fsub (fmul vi w.re) (fmul vr w.im)) sc⟩)) ∧
      z2 = transform (s.ctx (slotCtx m)) .neg z1 ∧
      (∀ k, k < mdctSize m / 4 →
        let z := elemC z2 k
        let w := elemC (rotTable m) k
        wordAt mem dst (2 * k) = fneg (fadd (fmul z.re w.re) (fmul z.im w.im)) ∧
        wordAt mem dst (mdctSize m / 2 - 1 - 2 * k) = fsub (fmul z.im w.re) (fmul z.re w.im))

/-! ### Filter bank -/

/-- `IFB ONLY_LONG` (R223, R226), with `t` the long transform of the spectrum (R224): the output is the old overlap plus the first half of
`t` under the previous long window, the new overlap the second half under the reversed current long window;
every byte outside `TIME` and `OVL`, and everything but memory, the slot's scratch, the transform buffer and `CP`, is as before. -/
def Obligations.IfbOnlyLongCompletes : Prop :=
  ∀ (s : State) (sh shp : Shape) (freq time ovl : Word), IfbReady s freq time ovl →
    ∃ (mem : Memory) (work z : List Cplx) (t : List F32),
      exec (.ifb .onlyLong sh shp freq time ovl) s = .next (((s.setWork .c1 work).setZ .m1 z).setTransf t |>.after mem) ∧
      t = (imdct .m1 s.cfft1 ((List.range 1024).map (wordAt s.mem freq))).out ∧
      (∀ k, Outside time 1024 k → Outside ovl 1024 k → mem.readByte k = s.mem.readByte k) ∧
      (∀ i, i < 1024 → wordAt mem time i = fadd (wordAt s.mem ovl i) (fmul (elemF t i) (elemF (wlong shp) i))) ∧
      (∀ i, i < 1024 → wordAt mem ovl i = fmul (elemF t (1024 + i)) (elemF (wlong sh) (1023 - i)))

/-- `IFB LONG_START` (R223, R227), with `t` the long transform of the spectrum (R224): the output as in ONLY_LONG, the new overlap in a flat,
a short-windowed and a zero band;
every byte outside `TIME` and `OVL`, and everything but memory, the slot's scratch, the transform buffer and `CP`, is as before. -/
def Obligations.IfbLongStartCompletes : Prop :=
  ∀ (s : State) (sh shp : Shape) (freq time ovl : Word), IfbReady s freq time ovl →
    ∃ (mem : Memory) (work z : List Cplx) (t : List F32),
      exec (.ifb .longStart sh shp freq time ovl) s = .next (((s.setWork .c1 work).setZ .m1 z).setTransf t |>.after mem) ∧
      t = (imdct .m1 s.cfft1 ((List.range 1024).map (wordAt s.mem freq))).out ∧
      (∀ k, Outside time 1024 k → Outside ovl 1024 k → mem.readByte k = s.mem.readByte k) ∧
      (∀ i, i < 1024 → wordAt mem time i = fadd (wordAt s.mem ovl i) (fmul (elemF t i) (elemF (wlong shp) i))) ∧
      (∀ i, i < 448 → wordAt mem ovl i = elemF t (1024 + i)) ∧
      (∀ i, i < 128 → wordAt mem ovl (448 + i) = fmul (elemF t (1472 + i)) (elemF (wshort sh) (127 - i))) ∧
      (∀ i, i < 448 → wordAt mem ovl (576 + i) = 0)

/-- `IFB EIGHT_SHORT` (R223, R228), with `t` the eight short transforms laid end to end (R224): every sample of the output and of the new
overlap;
every byte outside `TIME` and `OVL`, and everything but memory, the slot's scratch, the transform buffer and `CP`, is as before. -/
def Obligations.IfbEightShortCompletes : Prop :=
  ∀ (s : State) (sh shp : Shape) (freq time ovl : Word), IfbReady s freq time ovl →
    ∃ (mem : Memory) (work z : List Cplx) (t : List F32),
      exec (.ifb .eightShort sh shp freq time ovl) s = .next (((s.setWork .c0 work).setZ .m0 z).setTransf t |>.after mem) ∧
      (∀ b, b < 8 → ∀ i, i < 256 →
        elemF t (256 * b + i) =
          elemF (imdct .m0 s.cfft0 ((List.range 128).map fun q => wordAt s.mem freq (128 * b + q))).out i) ∧
      (∀ k, Outside time 1024 k → Outside ovl 1024 k → mem.readByte k = s.mem.readByte k) ∧
      (let Y := wordAt mem time
       let O := wordAt s.mem ovl
       let O' := wordAt mem ovl
       let R := fun i : Nat => elemF (wshort sh) (127 - i)
       let A := fun i : Nat => elemF (wshort sh) i
       let AP := fun i : Nat => elemF (wshort shp) i
       let T := elemF t
       (∀ i, i < 448 → Y i = O i) ∧
       (∀ i, i < 128 →
         Y (448 + i) = fadd (O (448 + i)) (fmul (T i) (AP i)) ∧
         Y (576 + i) = fadd (fadd (O (576 + i)) (fmul (T (128 + i)) (R i))) (fmul (T (256 + i)) (A i)) ∧
         Y (704 + i) = fadd (fadd (O (704 + i)) (fmul (T (384 + i)) (R i))) (fmul (T (512 + i)) (A i)) ∧
         Y (832 + i) = fadd (fadd (O (832 + i)) (fmul (T (640 + i)) (R i))) (fmul (T (768 + i)) (A i))) ∧
       (∀ i, i < 64 → Y (960 + i) = fadd (fadd (O (960 + i)) (fmul (T (896 + i)) (R i))) (fmul (T (1024 + i)) (A i))) ∧
       (∀ i, 64 ≤ i → i < 128 → O' (i - 64) = fadd (fmul (T (896 + i)) (R i)) (fmul (T (1024 + i)) (A i))) ∧
       (∀ i, i < 128 →
         O' (64 + i) = fadd (fmul (T (1152 + i)) (R i)) (fmul (T (1280 + i)) (A i)) ∧
         O' (192 + i) = fadd (fmul (T (1408 + i)) (R i)) (fmul (T (1536 + i)) (A i)) ∧
         O' (320 + i) = fadd (fmul (T (1664 + i)) (R i)) (fmul (T (1792 + i)) (A i)) ∧
         O' (448 + i) = fmul (T (1920 + i)) (R i)) ∧
       (∀ i, i < 448 → O' (576 + i) = 0))

/-- `IFB LONG_STOP` (R223, R229), with `t` the long transform of the spectrum (R224): the output in a flat, a blended and an added band, the
new overlap as in ONLY_LONG;
every byte outside `TIME` and `OVL`, and everything but memory, the slot's scratch, the transform buffer and `CP`, is as before. -/
def Obligations.IfbLongStopCompletes : Prop :=
  ∀ (s : State) (sh shp : Shape) (freq time ovl : Word), IfbReady s freq time ovl →
    ∃ (mem : Memory) (work z : List Cplx) (t : List F32),
      exec (.ifb .longStop sh shp freq time ovl) s = .next (((s.setWork .c1 work).setZ .m1 z).setTransf t |>.after mem) ∧
      t = (imdct .m1 s.cfft1 ((List.range 1024).map (wordAt s.mem freq))).out ∧
      (∀ k, Outside time 1024 k → Outside ovl 1024 k → mem.readByte k = s.mem.readByte k) ∧
      (∀ i, i < 448 → wordAt mem time i = wordAt s.mem ovl i) ∧
      (∀ i, i < 128 →
        wordAt mem time (448 + i) = fadd (wordAt s.mem ovl (448 + i)) (fmul (elemF t (448 + i)) (elemF (wshort shp) i))) ∧
      (∀ i, i < 448 → wordAt mem time (576 + i) = fadd (wordAt s.mem ovl (576 + i)) (elemF t (576 + i))) ∧
      (∀ i, i < 1024 → wordAt mem ovl i = fmul (elemF t (1024 + i)) (elemF (wlong sh) (1023 - i)))

/-- The first-call property (R231): with an overlap region of `+0`, the output of `IFB ONLY_LONG` is the product of transform and previous
window bit for bit, but that a product `-0` appears as `+0`; the new overlap is the product bit for bit. -/
def Obligations.FirstCallProperty : Prop :=
  ∀ (s t : State) (sh shp : Shape) (freq time ovl : Word), IfbReady s freq time ovl →
    (∀ i, i < 1024 → wordAt s.mem ovl i = 0) → exec (.ifb .onlyLong sh shp freq time ovl) s = .next t →
    ∀ i, i < 1024 →
      (let p := fmul (elemF t.transf i) (elemF (wlong shp) i)
       wordAt t.mem time i = if p = 0x80000000 then 0 else p) ∧
      wordAt t.mem ovl i = fmul (elemF t.transf (1024 + i)) (elemF (wlong sh) (1023 - i))

/-- `FFB ONLY_LONG` (R236): the windowed input of R237, then the forward transform of slot 1 (R208); every byte outside `OUT`, and everything
but memory, the slot's scratch, the windowed buffer and `CP`, is as before. -/
def Obligations.FfbCompletes : Prop :=
  ∀ (s : State) (sh shp : Shape) (inp out : Word), s.fbV = true → Inside s inp 2048 → Inside s out 1024 → Apart inp 2048 out 1024 →
    ∃ (mem : Memory) (work z : List Cplx) (w : List F32),
      exec (.ffb .onlyLong sh shp inp out) s = .next (((s.setWork .c1 work).setZ .m1 z).setWindowed w |>.after mem) ∧
      SameOutside s.mem mem out 1024 ∧ w.length = 2048 ∧
      (∀ i, i < 1024 → elemF w i = fmul (wordAt s.mem inp i) (elemF (wlong shp) i) ∧
        elemF w (1024 + i) = fmul (wordAt s.mem inp (1024 + i)) (elemF (wlong sh) (1023 - i))) ∧
      (∀ q, q < 1024 → wordAt mem out q = elemF (mdct .m1 s.cfft1 w).out q)

/-! ### The twiddle multiplier and the passes -/

/-- `CMUL` (R131): the two outputs of `CM` with the roundings of R130; every byte outside the destination, and everything but memory and `CP`,
is as before. -/
def Obligations.CmulCompletes : Prop :=
  ∀ (s : State) (src dst : Word), Inside s src 4 → Inside s dst 2 → Apart src 4 dst 2 →
    ∃ mem, exec (.cmul src dst) s = .next (s.after mem) ∧ SameOutside s.mem mem dst 2 ∧
      (let x := wordAt s.mem src
       wordAt mem dst 0 = fadd (fmul (x 0) (x 2)) (fmul (x 1) (x 3)) ∧
       wordAt mem dst 1 = fsub (fmul (x 1) (x 2)) (fmul (x 0) (x 3)))

/-- The two forms in which the passes use the twiddle multiplier, written out in roundings (R132). -/
def Obligations.RotationForms : Prop :=
  ∀ z w : Cplx,
    rotB z w = ⟨fsub (fmul z.re w.re) (fmul z.im w.im), fadd (fmul z.im w.re) (fmul z.re w.im)⟩ ∧
    rotF z w = ⟨fadd (fmul z.re w.re) (fmul z.im w.im), fsub (fmul z.im w.re) (fmul z.re w.im)⟩

/-- Radix 2, both directions (R164, R165, R166, R172): both outputs of every butterfly;
every byte outside the destination, and everything but memory and `CP`, is as before. -/
def Obligations.RadixTwoPassCompletes : Prop :=
  ∀ (s : State) (c : Ctx) (iw ido l1 : BitVec 16) (src dst : Word), PassReady s 2 c iw ido l1 src dst →
    ∀ (i : Instr) (sg : Sign), (i = .pass2p c iw ido l1 src dst ∧ sg = .pos) ∨ (i = .pass2n c iw ido l1 src dst ∧ sg = .neg) →
      ∃ mem, exec i s = .next (s.after mem) ∧ SameOutside s.mem mem dst (2 * (2 * l1.toNat * ido.toNat)) ∧
        ∀ k i, k < l1.toNat → i < ido.toNat →
          let cc := complexAt s.mem src
          let ch := complexAt mem dst
          let a := cc (i + ido.toNat * (2 * k))
          let b := cc (i + ido.toNat * (2 * k + 1))
          ch (i + ido.toNat * k) = cadd a b ∧
          ch (i + ido.toNat * (k + l1.toNat)) =
            if ido = 1 then csub a b else rot sg (csub a b) (elemC (s.ctx c).tw (iw.toNat + i))

/-- Radix 3, both directions (R164, R167): the three outputs of every butterfly;
every byte outside the destination, and everything but memory and `CP`, is as before. -/
def Obligations.RadixThreePassCompletes : Prop :=
  ∀ (s : State) (c : Ctx) (sg : Sign) (iw ido l1 : BitVec 16) (src dst : Word), PassReady s 3 c iw ido l1 src dst →
    ∃ mem, exec (.pass3 c sg iw ido l1 src dst) s = .next (s.after mem) ∧
      SameOutside s.mem mem dst (2 * (3 * l1.toNat * ido.toNat)) ∧
      ∀ k i, k < l1.toNat → i < ido.toNat →
        let cc := complexAt s.mem src
        let ch := complexAt mem dst
        let x0 := cc (i + ido.toNat * (3 * k))
        let x1 := cc (i + ido.toNat * (3 * k + 1))
        let x2 := cc (i + ido.toNat * (3 * k + 2))
        let t2 := cadd x1 x2
        let c2 : Cplx := ⟨fadd x0.re (fmul t2.re 0xBF000000), fadd x0.im (fmul t2.im 0xBF000000)⟩
        let c3 : Cplx := ⟨fmul (fsub x1.re x2.re) 0x3F5DB3D7, fmul (fsub x1.im x2.im) 0x3F5DB3D7⟩
        let up : Cplx := ⟨fsub c2.re c3.im, fadd c2.im c3.re⟩
        let down : Cplx := ⟨fadd c2.re c3.im, fsub c2.im c3.re⟩
        let d2 := if sg = .pos then up else down
        let d3 := if sg = .pos then down else up
        let tw := elemC (s.ctx c).tw
        ch (i + ido.toNat * k) = cadd x0 t2 ∧
        ch (i + ido.toNat * (k + l1.toNat)) = (if ido = 1 then d2 else rot sg d2 (tw (iw.toNat + i))) ∧
        ch (i + ido.toNat * (k + 2 * l1.toNat)) = (if ido = 1 then d3 else rot sg d3 (tw (iw.toNat + ido.toNat + i)))

/-- Radix 4, both directions (R164, R168, R169, R170, R173): the four outputs of every butterfly;
every byte outside the destination, and everything but memory and `CP`, is as before. -/
def Obligations.RadixFourPassCompletes : Prop :=
  ∀ (s : State) (c : Ctx) (iw ido l1 : BitVec 16) (src dst : Word), PassReady s 4 c iw ido l1 src dst →
    ∀ (i : Instr) (sg : Sign), (i = .pass4p c iw ido l1 src dst ∧ sg = .pos) ∨ (i = .pass4n c iw ido l1 src dst ∧ sg = .neg) →
      ∃ mem, exec i s = .next (s.after mem) ∧ SameOutside s.mem mem dst (2 * (4 * l1.toNat * ido.toNat)) ∧
        ∀ k i, k < l1.toNat → i < ido.toNat →
          let cc := complexAt s.mem src
          let ch := complexAt mem dst
          let x0 := cc (i + ido.toNat * (4 * k))
          let x1 := cc (i + ido.toNat * (4 * k + 1))
          let x2 := cc (i + ido.toNat * (4 * k + 2))
          let x3 := cc (i + ido.toNat * (4 * k + 3))
          let t2 := cadd x0 x2
          let t1 := csub x0 x2
          let t3 : Cplx := ⟨fadd x1.re x3.re, fadd x3.im x1.im⟩
          let t4 : Cplx := ⟨fsub x3.im x1.im, fsub x1.re x3.re⟩
          let c2 := if sg = .pos then cadd t1 t4 else csub t1 t4
          let c3 := csub t2 t3
          let c4 := if sg = .pos then csub t1 t4 else cadd t1 t4
          let tw := elemC (s.ctx c).tw
          ch (i + ido.toNat * k) = cadd t2 t3 ∧
          ch (i + ido.toNat * (k + l1.toNat)) = (if ido = 1 then c2 else rot sg c2 (tw (iw.toNat + i))) ∧
          ch (i + ido.toNat * (k + 2 * l1.toNat)) = (if ido = 1 then c3 else rot sg c3 (tw (iw.toNat + ido.toNat + i))) ∧
          ch (i + ido.toNat * (k + 3 * l1.toNat)) = (if ido = 1 then c4 else rot sg c4 (tw (iw.toNat + 2 * ido.toNat + i)))

/-- Radix 5, both directions (R164, R171, R174), with `IDO = 1` and no twiddle: the five outputs of every butterfly;
every byte outside the destination, and everything but memory and `CP`, is as before. -/
def Obligations.RadixFivePassCompletes : Prop :=
  ∀ (s : State) (c : Ctx) (sg : Sign) (iw ido l1 : BitVec 16) (src dst : Word), PassReady s 5 c iw ido l1 src dst →
    ∃ mem, exec (.pass5 c sg iw ido l1 src dst) s = .next (s.after mem) ∧ SameOutside s.mem mem dst (2 * (5 * l1.toNat)) ∧
      ∀ k, k < l1.toNat →
        let cc := complexAt s.mem src
        let ch := complexAt mem dst
        let x0 := cc (5 * k)
        let t2 := cadd (cc (5 * k + 1)) (cc (5 * k + 4))
        let t3 := cadd (cc (5 * k + 2)) (cc (5 * k + 3))
        let t4 := csub (cc (5 * k + 2)) (cc (5 * k + 3))
        let t5 := csub (cc (5 * k + 1)) (cc (5 * k + 4))
        let TR11 : F32 := 0x3E9E377A
        let TI11 : F32 := 0x3F737871
        let TR12 : F32 := 0xBF4F1BBD
        let TI12 : F32 := 0x3F167918
        let c2 : Cplx := ⟨fadd (fadd x0.re (fmul t2.re TR11)) (fmul t3.re TR12), fadd (fadd x0.im (fmul t2.im TR11)) (fmul t3.im TR12)⟩
        let c3 : Cplx := ⟨fadd (fadd x0.re (fmul t2.re TR12)) (fmul t3.re TR11), fadd (fadd x0.im (fmul t2.im TR12)) (fmul t3.im TR11)⟩
        let c5 : Cplx := ⟨fadd (fmul t5.re TI11) (fmul t4.re TI12), fadd (fmul t5.im TI11) (fmul t4.im TI12)⟩
        let c4 : Cplx := ⟨fsub (fmul t5.re TI12) (fmul t4.re TI11), fsub (fmul t5.im TI12) (fmul t4.im TI11)⟩
        let plus := fun a b : Cplx => (⟨fsub a.re b.im, fadd a.im b.re⟩ : Cplx)
        let minus := fun a b : Cplx => (⟨fadd a.re b.im, fsub a.im b.re⟩ : Cplx)
        ch k = ⟨fadd (fadd x0.re t2.re) t3.re, fadd (fadd x0.im t2.im) t3.im⟩ ∧
        ch (k + l1.toNat) = (if sg = .pos then plus c2 c5 else minus c2 c5) ∧
        ch (k + 2 * l1.toNat) = (if sg = .pos then plus c3 c4 else minus c3 c4) ∧
        ch (k + 3 * l1.toNat) = (if sg = .pos then minus c3 c4 else plus c3 c4) ∧
        ch (k + 4 * l1.toNat) = (if sg = .pos then minus c2 c5 else plus c2 c5)

/-! ### Numbers -/

/-- `fadd` of finite operands delivers the exact sum rounded to nearest, ties to even (R51, R53, R54): an infinity of the sum's sign from
`(2^25 - 1) * 2^252` units of `2^-149` on, else a finite word at least as near as every finite word, and even where another is as near. -/
def Obligations.AddRoundsToNearest : Prop :=
  ∀ a b : F32, isFinite a = true → isFinite b = true →
    let x := fval a + fval b
    let r := fadd a b
    (((2 ^ 25 - 1) * 2 ^ 252 : Int) ≤ |x| → r = if 0 < x then 0x7F800000 else 0xFF800000) ∧
    (|x| < ((2 ^ 25 - 1) * 2 ^ 252 : Int) → isFinite r = true ∧
      ∀ w : F32, isFinite w = true → |fval r - x| ≤ |fval w - x| ∧
        (|fval r - x| = |fval w - x| → fval w ≠ fval r → r.toNat % 2 = 0))

/-- `fmul` of finite operands delivers the exact product rounded to nearest, ties to even (R51, R53, R54); the product is counted in units
of `2^-298`. -/
def Obligations.MulRoundsToNearest : Prop :=
  ∀ a b : F32, isFinite a = true → isFinite b = true →
    let x := fval a * fval b
    let r := fmul a b
    (((2 ^ 25 - 1) * 2 ^ 401 : Int) ≤ |x| → r = if 0 < x then 0x7F800000 else 0xFF800000) ∧
    (|x| < ((2 ^ 25 - 1) * 2 ^ 401 : Int) → isFinite r = true ∧
      ∀ w : F32, isFinite w = true → |fval r * 2 ^ 149 - x| ≤ |fval w * 2 ^ 149 - x| ∧
        (|fval r * 2 ^ 149 - x| = |fval w * 2 ^ 149 - x| → fval w ≠ fval r → r.toNat % 2 = 0))

/-- NaN (R52): a NaN operand, `inf - inf` and `0 * inf` give `0x7FC00000`, and no other NaN is ever a result. -/
def Obligations.NaNIsCanonical : Prop :=
  ∀ a b : F32,
    (isNaN a = true ∨ isNaN b = true → fadd a b = 0x7FC00000 ∧ fsub a b = 0x7FC00000 ∧ fmul a b = 0x7FC00000) ∧
    (isInf a = true → fsub a a = 0x7FC00000 ∧ fadd a (fneg a) = 0x7FC00000 ∧
      ∀ z : F32, z = 0 ∨ z = 0x80000000 → fmul z a = 0x7FC00000 ∧ fmul a z = 0x7FC00000) ∧
    (isNaN (fadd a b) = true → fadd a b = 0x7FC00000) ∧ (isNaN (fsub a b) = true → fsub a b = 0x7FC00000) ∧
    (isNaN (fmul a b) = true → fmul a b = 0x7FC00000)

/-- Signed zeros (R55): exact cancellation gives `+0`, adding a zero to a non-zero value gives the value, zeros add as listed, and a zero
product has the exclusive-or of the signs. -/
def Obligations.SignedZeros : Prop :=
  (∀ x : F32, isFinite x = true → fsub x x = 0 ∧ fadd x (fneg x) = 0) ∧
  (∀ x : F32, isNaN x = false → x ≠ 0 → x ≠ 0x80000000 → fadd 0x80000000 x = x ∧ fadd x 0 = x) ∧
  fadd 0 0x80000000 = 0 ∧ fadd 0x80000000 0x80000000 = 0x80000000 ∧ fadd 0x80000000 0 = 0 ∧
  (∀ x y : F32, fmul x y = 0 ∨ fmul x y = 0x80000000 → fmul x y = (if x.msb = y.msb then 0 else 0x80000000)) ∧
  (∀ x : F32, isFinite x = true → (fmul x 0 = 0 ∨ fmul x 0 = 0x80000000) ∧ (fmul 0 x = 0 ∨ fmul 0 x = 0x80000000))

/-- `fadd` and `fmul` are commutative, `fsub(a, b)` is `fadd(a, fneg(b))` (R51); `fneg` inverts bit 31 alone, of every bit pattern (R56). -/
def Obligations.CommuteAndNegate : Prop :=
  ∀ a b : F32, fadd a b = fadd b a ∧ fmul a b = fmul b a ∧
    (isNaN a = false → isNaN b = false → fsub a b = fadd a (fneg b)) ∧
    (∀ j, j < 31 → (fneg a).getLsbD j = a.getLsbD j) ∧ (fneg a).getLsbD 31 = !(a.getLsbD 31)

/-- The identities of R134: for finite non-zero `x1`, `x2`, `CM(x1, x2, 1, +0) = (x1, x2)` and `CM(x1, x2, +0, 1) = (x2, fneg(x1))`; for
finite `c1`, `c2` with the sign bit clear `CM(+0, +0, c1, c2) = (+0, +0)`. -/
def Obligations.MultiplierIdentities : Prop :=
  (∀ x1 x2 : F32, isFinite x1 = true → isFinite x2 = true → fval x1 ≠ 0 → fval x2 ≠ 0 →
    cm x1 x2 0x3F800000 0 = (x1, x2) ∧ cm x1 x2 0 0x3F800000 = (x2, fneg x1)) ∧
  (∀ c1 c2 : F32, isFinite c1 = true → isFinite c2 = true → c1.msb = false → c2.msb = false → cm 0 0 c1 c2 = (0, 0))

/-! ### The machine -/

/-- A command writes only inside its `out` and `inout` regions (R69): every other byte of memory reads as before. -/
def Obligations.CommandsWriteOnlyTheirRegions : Prop :=
  ∀ (i : Instr) (s t : State), s.Inv → exec i s = .next t →
    ∀ k, (∀ r ∈ regions s i, r.dir ≠ .input → Outside r.base r.len k) → t.mem.readByte k = s.mem.readByte k

/-- Only the construction commands write a context's size, factors or twiddle table or a valid bit (R41, R259), and no command touches the
parameters or what waits outside the CORE. -/
def Obligations.CommandsKeepConstruction : Prop :=
  ∀ (i : Instr) (s t : State), exec i s = .next t →
    (t.params = s.params ∧ t.resetIn = s.resetIn ∧ t.hostIn = s.hostIn ∧ t.hostQueue = s.hostQueue ∧ t.hostReads = s.hostReads) ∧
    ((∀ n, i ≠ .cfftInit n) → t.cuV = s.cuV ∧ t.cfft2.N = s.cfft2.N ∧ t.cfft2.nf = s.cfft2.nf ∧ t.cfft2.fac = s.cfft2.fac ∧
      t.cfft2.tw = s.cfft2.tw) ∧
    ((∀ fl, i ≠ .fbInit fl) → t.fbV = s.fbV ∧
      t.cfft0.N = s.cfft0.N ∧ t.cfft0.nf = s.cfft0.nf ∧ t.cfft0.fac = s.cfft0.fac ∧ t.cfft0.tw = s.cfft0.tw ∧
      t.cfft1.N = s.cfft1.N ∧ t.cfft1.nf = s.cfft1.nf ∧ t.cfft1.fac = s.cfft1.fac ∧ t.cfft1.tw = s.cfft1.tw)

/-- The invariant holds after reset, with the model's choices for what the spec leaves open (log entries 1, 2, 4). -/
def Obligations.InvariantAtReset : Prop := State.reset.Inv

/-- Every step, in the sense of log entries 8 to 11, keeps the invariant. -/
def Obligations.InvariantKeptByStep : Prop := ∀ s t : State, s.Inv → step s = .next t → t.Inv

/-- A run ends (R25): without the reset input, a busy machine is idle after at most `DMEM_WORDS / 4 + 1` steps, none of which
stops. That one step is one command is the model's (log entry 8), that a step without the reset input is an empty list of levels too (log
entry 10). -/
def Obligations.EveryRunEnds : Prop :=
  ∀ s : State, s.params.legal = true → s.busy = true → s.resetIn = [] →
    ∃ n t, n ≤ s.params.dmemWords / 4 + 1 ∧ steps n s = some t ∧ t.busy = false

/-- The scratch arrays cannot be observed, by a program or by the host (R57). From two states that differ only in them every command and
every step of the machine (a fetch with its command or fault, an access of the host, the reset input) leads to two states that again differ
only in them, so that memory, registers and what the host has read are equal, or makes the model stop for the same reason; and so does every
sequence of steps. What the scratch arrays hold is log entries 4 and 5, what a step is log entries 8 to 11. -/
def Obligations.ScratchIsUnobservable : Prop :=
  ∀ s s' : State, SameButScratch s s' →
    (∀ i : Instr, ∃ t t', exec i s = .next t ∧ exec i s' = .next t' ∧ SameButScratch t t') ∧
    ((∃ t t', step s = .next t ∧ step s' = .next t' ∧ SameButScratch t t') ∨ (∃ e, step s = .fault e ∧ step s' = .fault e) ∨
      (∃ e, step s = .refused e ∧ step s' = .refused e)) ∧
    (∀ n t, steps n s = some t → ∃ t', steps n s' = some t' ∧ SameButScratch t t') ∧
    (∀ n, steps n s = none → steps n s' = none)

/-- After power-on every register and flag is 0 and memory is `DMEM_INIT` (R59, R61, R340). -/
def Obligations.PowerOnState : Prop :=
  ∀ (p : Params) (init : Memory),
    let s := State.powerOn p init
    s.mem = init ∧ s.cp = 0 ∧ s.busy = false ∧ s.done = false ∧ s.fault = false ∧ s.fbV = false ∧ s.cuV = false ∧ s.fcode = 0 ∧
      s.fcp = 0 ∧ s.finfo = 0 ∧ s.statusWord = 0

/-- A write of `CTRL` while no run is in progress (R32, R250, R340): `SRST` puts every register, flag and valid bit at its reset value and
keeps
`DMEM`; else `GO` starts a run at the current `CP` when no fault is recorded; else nothing. That an idle step performs the oldest of the host's
outstanding accesses, and that these and the reset line are lists that move on by one place a step, is the model's choice (log entries 9,
10). -/
def Obligations.CtrlWrite : Prop :=
  ∀ (s : State) (v : Word) (rest : List HostAccess), s.busy = false → s.resetIn.headD false = false →
    s.outstanding = .write .registers 4 4 v :: rest →
    (v.getLsbD 1 = true → ∃ t, step s = .next t ∧ t.mem = s.mem ∧ t.params = s.params ∧ t.hostQueue = rest ∧
      t.hostReads = s.hostReads ∧ t.hostIn = s.hostIn.tail ∧ t.resetIn = s.resetIn.tail ∧ t.cp = 0 ∧ t.busy = false ∧ t.done = false ∧ t.fault = false ∧
      t.fbV = false ∧ t.cuV = false ∧ t.fcode = 0 ∧ t.fcp = 0 ∧ t.finfo = 0) ∧
    (v.getLsbD 1 = false → v.getLsbD 0 = true → s.fault = false →
      step s = .next { s.leaving rest with done := false, busy := true }) ∧
    (v.getLsbD 1 = false → v.getLsbD 0 = false ∨ s.fault = true →
      step s = .next (s.leaving rest))

/-- Reads of the register aperture while no run is in progress (R30, R31, R33 to R38); they change nothing of the CORE (R65). The
lists of the host's accesses, of the values it has read and of the reset line's levels are the model's choice (log entries 9, 10). -/
def Obligations.RegisterReads : Prop :=
  ∀ (s : State) (r : Nat) (rest : List HostAccess), s.busy = false → s.resetIn.headD false = false →
    s.outstanding = .read .registers (4 * r) 4 :: rest →
    ∃ v, step s = .next { s.leaving rest with hostReads := ⟨.registers, 4 * r, v⟩ :: s.hostReads } ∧
      (r = 0 → v = 0x0AAC0002) ∧ (r = 1 → v = 0) ∧
      (r = 2 → v.toNat =
        (if s.done then 2 else 0) + (if s.fault then 4 else 0) + (if s.fbV then 16 else 0) + (if s.cuV then 32 else 0)) ∧
      (r = 3 → v = s.cp) ∧ (r = 4 → v.toNat = s.fcode.toNat) ∧ (r = 5 → v = s.fcp) ∧ (r = 6 → v = s.finfo) ∧ (7 ≤ r → v = 0)

/-- Writes of the register aperture other than `CTRL` while no run is in progress: `CP` takes every value; every other register ignores
the write (R30, R34, R38). The lists of the host's accesses and of the reset line's levels are the model's choice (log entries 9, 10). -/
def Obligations.RegisterWrites : Prop :=
  ∀ (s : State) (r : Nat) (v : Word) (rest : List HostAccess), s.busy = false → s.resetIn.headD false = false →
    s.outstanding = .write .registers (4 * r) 4 v :: rest →
    (r = 3 → step s = .next { s.leaving rest with cp := v }) ∧
    (r ≠ 1 → r ≠ 3 → step s = .next (s.leaving rest))

/-- The host's accesses while no run is in progress. To `DMEM` (R62, R65): a read returns the word and changes nothing, a write changes that
word alone. An address beyond `DMEM` (R62) makes the model stop with `hostOutsideDmem`; in either aperture an access that is narrower, wider
or misaligned (R64, R66), in `DMEM` or beyond it, makes it stop with `hostAccessUnsupported`: the rules say that a model refuses the step,
the two names and which of them comes first are the model's (log entry 14), as are the lists of accesses and levels (log entries 9, 10). -/
def Obligations.HostMemoryAccess : Prop :=
  ∀ (s : State) (a : Nat) (v : Word) (rest : List HostAccess), s.busy = false → s.resetIn.headD false = false →
    (s.outstanding = .read .memory (4 * a) 4 :: rest → a < s.params.dmemWords →
      step s = .next { s.leaving rest with hostReads := ⟨.memory, 4 * a, s.mem.readWord a⟩ :: s.hostReads }) ∧
    (s.outstanding = .write .memory (4 * a) 4 v :: rest → a < s.params.dmemWords →
      ∃ mem, step s = .next { s.leaving rest with mem := mem } ∧ mem.readWord a = v ∧
        ∀ k, ¬ (4 * a ≤ k ∧ k < 4 * (a + 1)) → mem.readByte k = s.mem.readByte k) ∧
    (s.outstanding = .read .memory (4 * a) 4 :: rest ∨ s.outstanding = .write .memory (4 * a) 4 v :: rest → s.params.dmemWords ≤ a →
            step s = .fault (.hostOutsideDmem a)) ∧
    (∀ (ap : Aperture) (off size : Nat), size ≠ 4 ∨ off % 4 ≠ 0 →
      s.outstanding = .read ap off size :: rest ∨ s.outstanding = .write ap off size v :: rest →
      step s = .refused (.hostAccessUnsupported off size))

/-- While a run is in progress every outstanding `STATUS` read, wherever it stands among the held accesses, completes at once and returns 1,
and every other access of the host is held (R33, R39), also where the reset input ends the run. The model's choice, log entry 9: the accesses
of a step arrive before its command, so that a poll of the step in which the run ends still reads 1. -/
def Obligations.HostIsHeldDuringARun : Prop :=
  ∀ s t : State, s.busy = true → step s = .next t →
    t.hostIn = s.hostIn.tail ∧ t.hostQueue = (s.hostQueue ++ s.hostIn.headD []).filter (· ≠ .read .registers 8 4) ∧
    t.hostReads = List.replicate ((s.hostQueue ++ s.hostIn.headD []).count (.read .registers 8 4)) ⟨.registers, 8, 1⟩ ++ s.hostReads

/-- The reset input during a run (R341): the registers and valid bits take their reset values, what the host waits for stays held, and every
byte outside the `out` and `inout` regions of the command in progress keeps its value. The model's choice: the accesses of the step arrive
before the reset input, so that a `STATUS` poll among them still reads 1 (log entry 9), the reset input acts before the command and is then
the whole step (log entry 10), and the command in progress is the one at `CP` when the line is sampled (log entry 11). -/
def Obligations.ResetDuringARun : Prop :=
  ∀ s : State, s.busy = true → s.resetIn.headD false = true →
    ∃ t, step s = .next t ∧ t.cp = 0 ∧ t.busy = false ∧ t.done = false ∧ t.fault = false ∧ t.fbV = false ∧ t.cuV = false ∧
      t.fcode = 0 ∧ t.fcp = 0 ∧ t.finfo = 0 ∧ t.hostQueue = s.outstanding.filter (· ≠ .statusPoll) ∧
      t.hostReads = List.replicate (s.outstanding.count .statusPoll) ⟨.registers, 8, 1⟩ ++ s.hostReads ∧
      ∀ k, (∀ i, decodeDescriptor (s.descriptorAt s.cp.toNat) = .ok i → ∀ r ∈ regions s i, r.dir ≠ .input → Outside r.base r.len k) →
        t.mem.readByte k = s.mem.readByte k

/-- Only reset clears `FAULT`, `FB_V` and `CU_V` (R27, R312, R340): the reset input, or a write of `CTRL` with `SRST` while no run is in
progress. That such a write acts when it is the host's oldest outstanding access, and the reset input when it is sampled at a step's start, is the
model's choice (log entries 9, 10). -/
def Obligations.OnlyResetClears : Prop :=
  ∀ s t : State, step s = .next t → s.resetIn.headD false = false →
    (s.busy = false → ∀ v rest, s.outstanding = .write .registers 4 4 v :: rest → v.getLsbD 1 = false) →
    (s.fault = true → t.fault = true) ∧ (s.fbV = true → t.fbV = true) ∧ (s.cuV = true → t.cuV = true)

/-- The reset input while no run is in progress (R340): the registers, the flags and the valid bits take their reset values and every word of
`DMEM` keeps its value. The model's choice: the reset input acts before an outstanding access of the host and is then the whole step, so
that the access stays and is performed against the reset state (log entries 9, 10). -/
def Obligations.ResetWhileIdle : Prop :=
  ∀ s : State, s.busy = false → s.resetIn.headD false = true →
    ∃ t, step s = .next t ∧ t.cp = 0 ∧ t.busy = false ∧ t.done = false ∧ t.fault = false ∧ t.fbV = false ∧ t.cuV = false ∧
      t.fcode = 0 ∧ t.fcp = 0 ∧ t.finfo = 0 ∧ t.statusWord = 0 ∧ t.mem = s.mem ∧ t.params = s.params ∧
      t.resetIn = s.resetIn.tail ∧ t.hostIn = s.hostIn.tail ∧ t.hostQueue = s.outstanding ∧ t.hostReads = s.hostReads
end

