-- ==== Sys2Proof/Laws/Memory.lean ====
section
/-! SUPPORT. What the memory operations do, said once: what a byte reads as after a write, that every write keeps the canonical
form, and that equal bytes make equal memories. Later proofs cite these and unfold no memory operation. -/

namespace Sys2Proof.Laws

open Sys2Proof Sys2Proof.Machine

/-! ### The canonical form -/

/-- The canonical form, as a statement about pairs and members. -/
theorem wf_iff (m : Memory) :
    m.wf = true ↔ m.Pairwise (fun c d => c.1 < d.1) ∧ ∀ c ∈ m, c.2 ≠ Memory.unlisted := by
  induction m with
  | nil => simp [Memory.wf]
  | cons c m ih =>
    cases m with
    | nil => simp [Memory.wf]
    | cons d m =>
      simp only [Memory.wf, Bool.and_eq_true, bne_iff_ne, decide_eq_true_eq, ih, List.pairwise_cons, List.forall_mem_cons]
      constructor
      · rintro ⟨⟨h1, h2⟩, ⟨h3, h4⟩, h5, h6⟩
        exact ⟨⟨⟨h2, fun x hx => h2.trans (h3 x hx)⟩, h3, h4⟩, h1, h5, h6⟩
      · rintro ⟨⟨⟨h2, _⟩, h3, h4⟩, h1, h5, h6⟩
        exact ⟨⟨h1, h2⟩, ⟨h3, h4⟩, h5, h6⟩

theorem wf_nil : Memory.wf [] = true := rfl

/-! ### Reading a byte -/

@[simp] theorem readByte_nil (k : Nat) : Memory.readByte [] k = Memory.unlisted := rfl

/-- A byte no cell of the memory lists. -/
theorem readByte_of_absent {m : Memory} {k : Nat} (h : ∀ c ∈ m, c.1 ≠ k) : m.readByte k = Memory.unlisted := by
  induction m with
  | nil => rfl
  | cons c m ih =>
    rw [Memory.readByte, if_neg (h c (by simp))]
    exact ih fun d hd => h d (by simp [hd])

theorem readByte_append (m n : Memory) (k : Nat) :
    Memory.readByte (m ++ n) k = if ∃ c ∈ m, c.1 = k then Memory.readByte m k else Memory.readByte n k := by
  induction m with
  | nil => simp
  | cons c m ih =>
    by_cases hc : c.1 = k
    · simp [Memory.readByte, hc]
    · simp [Memory.readByte, hc, ih]

/-- Keeping only cells that include those of address `k` keeps the byte at `k`. -/
theorem readByte_filter_keep (m : Memory) (p : Host.Cell → Bool) {k : Nat} (h : ∀ b, p (k, b) = true) :
    Memory.readByte (m.filter p) k = m.readByte k := by
  induction m with
  | nil => rfl
  | cons c m ih =>
    by_cases hc : c.1 = k
    · have : p c = true := by obtain ⟨a, b⟩ := c; obtain rfl : a = k := hc; exact h b
      simp [this, Memory.readByte, hc]
    · by_cases hp : p c = true <;> simp [hp, Memory.readByte, hc, ih]

/-! ### The cells of a run of bytes -/

theorem cellsOf_bounds {k : Nat} {bs : List Byte} {c : Host.Cell} (h : c ∈ cellsOf k bs) :
    k ≤ c.1 ∧ c.1 < k + bs.length ∧ c.2 ≠ Memory.unlisted := by
  induction bs generalizing k with
  | nil => simp [cellsOf] at h
  | cons b bs ih =>
    simp only [cellsOf] at h
    split at h
    · have := ih h; simp only [List.length_cons]; exact ⟨by omega, by omega, this.2.2⟩
    · rcases List.mem_cons.mp h with rfl | h
      · simp only [List.length_cons]; exact ⟨by omega, by omega, by assumption⟩
      · have := ih h; simp only [List.length_cons]; exact ⟨by omega, by omega, this.2.2⟩

theorem cellsOf_pairwise (k : Nat) (bs : List Byte) : (cellsOf k bs).Pairwise (fun c d => c.1 < d.1) := by
  induction bs generalizing k with
  | nil => exact .nil
  | cons b bs ih =>
    simp only [cellsOf]
    split
    · exact ih _
    · exact List.pairwise_cons.mpr ⟨fun c hc => by have := cellsOf_bounds hc; simp only; omega, ih _⟩

theorem readByte_cellsOf (k : Nat) (bs : List Byte) (a : Nat) :
    Memory.readByte (cellsOf k bs) a = if k ≤ a then bs.getD (a - k) Memory.unlisted else Memory.unlisted := by
  induction bs generalizing k with
  | nil => simp [cellsOf]
  | cons b bs ih =>
    have tail : ∀ _ : k ≠ a, Memory.readByte (cellsOf (k + 1) bs) a =
        if k ≤ a then (b :: bs).getD (a - k) Memory.unlisted else Memory.unlisted := by
      intro hk
      rw [ih]
      by_cases h : k + 1 ≤ a
      · obtain ⟨j, rfl⟩ := Nat.exists_eq_add_of_le h
        have e : k + 1 + j - k = j + 1 := by omega
        simp [e, show k ≤ k + 1 + j by omega]
      · simp [h, show ¬ k ≤ a by omega]
    simp only [cellsOf]
    by_cases hk : k = a
    · subst hk
      by_cases hb : b = Memory.unlisted
      · rw [if_pos hb, readByte_of_absent]
        · simp [hb]
        · intro c hc; have := cellsOf_bounds hc; omega
      · simp [hb, Memory.readByte]
    · by_cases hb : b = Memory.unlisted
      · rw [if_pos hb]; exact tail hk
      · rw [if_neg hb, Memory.readByte, if_neg hk]; exact tail hk

/-! ### Writing bytes -/

/-- A byte after a write: what was written there, or what it was. -/
theorem readByte_writeBytes (m : Memory) (k : Nat) (bs : List Byte) (a : Nat) :
    (m.writeBytes k bs).readByte a =
      if k ≤ a ∧ a < k + bs.length then bs.getD (a - k) Memory.unlisted else m.readByte a := by
  rw [Memory.writeBytes, readByte_append, readByte_append]
  by_cases h1 : a < k
  · have hcells : ¬ ∃ c ∈ cellsOf k bs, c.1 = a := by
      rintro ⟨c, hc, rfl⟩; have := cellsOf_bounds hc; omega
    have hhigh : Memory.readByte (m.filter fun c => decide (k + bs.length ≤ c.1)) a = Memory.unlisted :=
      readByte_of_absent fun c hc => by have := (List.mem_filter.mp hc).2; simp only [decide_eq_true_eq] at this; omega
    have hlow := readByte_filter_keep m (fun c => decide (c.1 < k)) (k := a) (by simpa using h1)
    rw [if_neg (by omega : ¬ (k ≤ a ∧ a < k + bs.length))]
    by_cases hm : ∃ c ∈ m.filter (fun c => decide (c.1 < k)), c.1 = a
    · have : ∃ c ∈ m.filter (fun c => decide (c.1 < k)) ++ cellsOf k bs, c.1 = a := by
        obtain ⟨c, hc, he⟩ := hm; exact ⟨c, List.mem_append_left _ hc, he⟩
      rw [if_pos this, if_pos hm, hlow]
    · have h0 : Memory.readByte (m.filter fun c => decide (c.1 < k)) a = Memory.unlisted :=
        readByte_of_absent fun c hc he => hm ⟨c, hc, he⟩
      have : ¬ ∃ c ∈ m.filter (fun c => decide (c.1 < k)) ++ cellsOf k bs, c.1 = a := by
        rintro ⟨c, hc, he⟩
        rcases List.mem_append.mp hc with hc | hc
        · exact hm ⟨c, hc, he⟩
        · exact hcells ⟨c, hc, he⟩
      rw [if_neg this, hhigh, ← hlow, h0]
  · have hlowAbsent : ¬ ∃ c ∈ m.filter (fun c => decide (c.1 < k)), c.1 = a := by
      rintro ⟨c, hc, rfl⟩; have := (List.mem_filter.mp hc).2; simp only [decide_eq_true_eq] at this; omega
    rw [if_neg hlowAbsent, readByte_cellsOf, if_pos (by omega : k ≤ a)]
    by_cases h2 : a < k + bs.length
    · rw [if_pos (⟨by omega, h2⟩ : k ≤ a ∧ a < k + bs.length)]
      have hhigh : Memory.readByte (m.filter fun c => decide (k + bs.length ≤ c.1)) a = Memory.unlisted :=
        readByte_of_absent fun c hc => by have := (List.mem_filter.mp hc).2; simp only [decide_eq_true_eq] at this; omega
      split
      · rfl
      · next hn =>
        rw [hhigh]
        by_contra hne
        apply hn
        have hr := readByte_cellsOf k bs a
        rw [if_pos (by omega : k ≤ a)] at hr
        by_contra hex
        apply hne
        rw [← hr]
        exact (readByte_of_absent fun c hc he => hex ⟨c, List.mem_append_right _ hc, he⟩).symm
    · rw [if_neg (by omega : ¬ (k ≤ a ∧ a < k + bs.length))]
      have : ¬ ∃ c ∈ m.filter (fun c => decide (c.1 < k)) ++ cellsOf k bs, c.1 = a := by
        rintro ⟨c, hc, he⟩
        rcases List.mem_append.mp hc with hc | hc
        · exact hlowAbsent ⟨c, hc, he⟩
        · have := cellsOf_bounds hc; omega
      rw [if_neg this]
      exact readByte_filter_keep m _ (by simpa using Nat.not_lt.mp h2)

/-- Every write keeps the canonical form. -/
theorem wf_writeBytes {m : Memory} (h : m.wf = true) (k : Nat) (bs : List Byte) : (m.writeBytes k bs).wf = true := by
  rw [wf_iff] at h ⊢
  obtain ⟨hp, hne⟩ := h
  constructor
  · rw [Memory.writeBytes, List.pairwise_append, List.pairwise_append]
    refine ⟨⟨hp.filter _, cellsOf_pairwise k bs, ?_⟩, hp.filter _, ?_⟩
    · intro c hc d hd
      have h1 := (List.mem_filter.mp hc).2
      have h2 := cellsOf_bounds hd
      simp only [decide_eq_true_eq] at h1; omega
    · intro c hc d hd
      have h2 := (List.mem_filter.mp hd).2
      simp only [decide_eq_true_eq] at h2
      rcases List.mem_append.mp hc with hc | hc
      · have h1 := (List.mem_filter.mp hc).2
        simp only [decide_eq_true_eq] at h1; omega
      · have h1 := cellsOf_bounds hc; omega
  · intro c hc
    rw [Memory.writeBytes] at hc
    rcases List.mem_append.mp hc with hc | hc
    · rcases List.mem_append.mp hc with hc | hc
      · exact hne c (List.mem_filter.mp hc).1
      · exact (cellsOf_bounds hc).2.2
    · exact hne c (List.mem_filter.mp hc).1

/-- A write inside a bound lists no byte beyond it. -/
theorem writeBytes_bound {m : Memory} {B : Nat} (h : ∀ c ∈ m, c.1 < B) {k : Nat} {bs : List Byte} (hk : k + bs.length ≤ B) :
    ∀ c ∈ m.writeBytes k bs, c.1 < B := by
  intro c hc
  rw [Memory.writeBytes] at hc
  rcases List.mem_append.mp hc with hc | hc
  · rcases List.mem_append.mp hc with hc | hc
    · exact h c (List.mem_filter.mp hc).1
    · have := cellsOf_bounds hc; omega
  · exact h c (List.mem_filter.mp hc).1

theorem readByte_cons_self (c : Host.Cell) (m : Memory) : Memory.readByte (c :: m) c.1 = c.2 := by
  simp [Memory.readByte]

/-- In a canonical memory a listed byte does not read as an unlisted one. -/
theorem readByte_of_mem {m : Memory} (h : m.wf = true) {c : Host.Cell} (hc : c ∈ m) : m.readByte c.1 = c.2 := by
  rw [wf_iff] at h
  induction m with
  | nil => simp at hc
  | cons d m ih =>
    obtain ⟨hp, hne⟩ := h
    rw [List.pairwise_cons] at hp
    rcases List.mem_cons.mp hc with rfl | hc
    · exact readByte_cons_self c m
    · rw [Memory.readByte, if_neg (by have := hp.1 c hc; omega)]
      exact ih ⟨hp.2, fun x hx => hne x (by simp [hx])⟩ hc

/-- Canonical memories whose bytes are equal are equal. -/
theorem eq_of_readByte {m n : Memory} (hm : m.wf = true) (hn : n.wf = true) (h : ∀ k, m.readByte k = n.readByte k) :
    m = n := by
  have mem_of : ∀ {m n : Memory}, m.wf = true → (∀ k, m.readByte k = n.readByte k) → ∀ c ∈ m, c ∈ n := by
    intro m n hm h c hc
    have h1 := readByte_of_mem hm hc
    have h2 := ((wf_iff m).mp hm).2 c hc
    by_contra hno
    have : ∀ d ∈ n, d.1 ≠ c.1 ∨ d.2 ≠ c.2 := by
      intro d hd
      by_contra hcon
      simp only [not_or, not_not] at hcon
      exact hno (Prod.ext hcon.1 hcon.2 ▸ hd)
    have hread : n.readByte c.1 = c.2 := by rw [← h, h1]
    have aux : ∀ n : Memory, (∀ d ∈ n, d.1 ≠ c.1 ∨ d.2 ≠ c.2) → n.readByte c.1 ≠ c.2 := by
      intro n hn
      induction n with
      | nil => exact fun e => h2 e.symm
      | cons d n ih =>
        have hd := hn d (by simp)
        by_cases e : d.1 = c.1
        · simpa [Memory.readByte, e] using hd
        · rw [Memory.readByte, if_neg e]; exact ih fun x hx => hn x (by simp [hx])
    exact aux n this hread
  have sub := mem_of hm h
  have sup := mem_of hn fun k => (h k).symm
  have hp := ((wf_iff m).mp hm).1
  have hq := ((wf_iff n).mp hn).1
  exact List.Perm.eq_of_pairwise (le := fun c d : Host.Cell => c.1 < d.1)
    (fun a b _ _ h1 h2 => by omega) hp hq
    ((List.perm_ext_iff_of_nodup (hp.imp fun h e => by subst e; omega) (hq.imp fun h e => by subst e; omega)).mpr
      fun c => ⟨sub c, sup c⟩)

end Sys2Proof.Laws
end

