-- ==== Sys2Proof/Laws/Words.lean ====
section
/-! SUPPORT. Words and complex values in memory: what a word reads as after words were written, with the byte order of R63 used once,
here. -/

namespace Sys2Proof.Laws

open Sys2Proof Sys2Proof.Machine

/-- The four bytes of a word make the word (R63). -/
theorem wordOfBytes_bytes (w : Word) :
    wordOfBytes (w.extractLsb 7 0) (w.extractLsb 15 8) (w.extractLsb 23 16) (w.extractLsb 31 24) = w := by
  apply BitVec.eq_of_toNat_eq
  have := w.isLt
  simp only [wordOfBytes, BitVec.toNat_append, BitVec.extractLsb, BitVec.extractLsb'_toNat, Nat.shiftRight_eq_div_pow]
  rw [← Nat.shiftLeft_add_eq_or_of_lt (by omega), ← Nat.shiftLeft_add_eq_or_of_lt (by omega),
    ← Nat.shiftLeft_add_eq_or_of_lt (by omega)]
  simp only [Nat.shiftLeft_eq]
  omega

@[simp] theorem bytesOfWord_length (w : Word) : (bytesOfWord w).length = 4 := rfl

theorem flatMap_bytesOfWord_length (ws : List Word) : (ws.flatMap bytesOfWord).length = 4 * ws.length := by
  induction ws with
  | nil => rfl
  | cons w ws ih => simp [List.flatMap_cons, ih]; omega

/-- Byte `j` of word `i` in a run of words. -/
theorem flatMap_bytesOfWord_getD (ws : List Word) (i j : Nat) (hj : j < 4) (d : Byte) (hi : i < ws.length) :
    (ws.flatMap bytesOfWord).getD (4 * i + j) d = (bytesOfWord (ws.getD i 0)).getD j d := by
  induction ws generalizing i with
  | nil => simp at hi
  | cons w ws ih =>
    cases i with
    | zero =>
      rw [List.flatMap_cons, List.getD_append _ _ _ _ (by simp; omega)]
      simp
    | succ i =>
      rw [List.flatMap_cons, List.getD_append_right _ _ _ _ (by simp; omega)]
      have := ih i (by simpa using hi)
      rw [show 4 * (i + 1) + j - (bytesOfWord w).length = 4 * i + j by simp; omega, this]
      simp

/-- A byte outside the words written keeps its value (R16). -/
theorem readByte_writeWords_outside (m : Memory) (a : Nat) (ws : List Word) (k : Nat)
    (h : ¬ (4 * a ≤ k ∧ k < 4 * (a + ws.length))) : (m.writeWords a ws).readByte k = m.readByte k := by
  rw [Memory.writeWords, readByte_writeBytes, flatMap_bytesOfWord_length, if_neg (by omega)]

/-- A byte of word `i` written. -/
theorem readByte_writeWords_inside (m : Memory) (a : Nat) (ws : List Word) (i j : Nat) (hi : i < ws.length) (hj : j < 4) :
    (m.writeWords a ws).readByte (4 * (a + i) + j) = (bytesOfWord (ws.getD i 0)).getD j Memory.unlisted := by
  rw [Memory.writeWords, readByte_writeBytes, flatMap_bytesOfWord_length, if_pos (by omega),
    show 4 * (a + i) + j - 4 * a = 4 * i + j by omega, flatMap_bytesOfWord_getD _ _ _ hj _ hi]

/-- A word written reads back (R16). -/
theorem readWord_writeWords_inside (m : Memory) (a : Nat) (ws : List Word) (i : Nat) (hi : i < ws.length) :
    (m.writeWords a ws).readWord (a + i) = ws.getD i 0 := by
  have h0 := readByte_writeWords_inside m a ws i 0 hi (by omega)
  have h1 := readByte_writeWords_inside m a ws i 1 hi (by omega)
  have h2 := readByte_writeWords_inside m a ws i 2 hi (by omega)
  have h3 := readByte_writeWords_inside m a ws i 3 hi (by omega)
  rw [Nat.add_zero] at h0
  rw [Memory.readWord, h0, h1, h2, h3]
  exact wordOfBytes_bytes _

/-- A word depends only on its four bytes. -/
theorem readWord_congr {m n : Memory} {a : Nat} (h : ∀ k, 4 * a ≤ k → k < 4 * (a + 1) → m.readByte k = n.readByte k) :
    m.readWord a = n.readWord a := by
  rw [Memory.readWord, Memory.readWord, h _ (by omega) (by omega), h _ (by omega) (by omega), h _ (by omega) (by omega),
    h _ (by omega) (by omega)]

/-- A word outside the words written keeps its value (R16). -/
theorem readWord_writeWords_outside (m : Memory) (a : Nat) (ws : List Word) (b : Nat) (h : ¬ (a ≤ b ∧ b < a + ws.length)) :
    (m.writeWords a ws).readWord b = m.readWord b :=
  readWord_congr fun k h1 h2 => readByte_writeWords_outside m a ws k (by omega)

theorem wf_writeWords {m : Memory} (h : m.wf = true) (a : Nat) (ws : List Word) : (m.writeWords a ws).wf = true :=
  wf_writeBytes h _ _

theorem writeWords_bound {m : Memory} {B : Nat} (h : ∀ c ∈ m, c.1 < 4 * B) {a : Nat} {ws : List Word} (hk : a + ws.length ≤ B) :
    ∀ c ∈ m.writeWords a ws, c.1 < 4 * B :=
  writeBytes_bound h (by rw [flatMap_bytesOfWord_length]; omega)

/-! ### Arrays -/

@[simp] theorem readWords_length (m : Memory) (a n : Nat) : (m.readWords a n).length = n := by simp [Memory.readWords]

@[simp] theorem readComplex_length (m : Memory) (a n : Nat) : (m.readComplex a n).length = n := by simp [Memory.readComplex]

@[simp] theorem wordsOfComplex_length (zs : List Cplx) : (wordsOfComplex zs).length = 2 * zs.length := by
  induction zs with
  | nil => rfl
  | cons z zs ih => rw [wordsOfComplex, List.flatMap_cons, List.length_append, ← wordsOfComplex, ih]; simp; omega

theorem readWords_congr {m n : Memory} {a l : Nat} (h : ∀ b, a ≤ b → b < a + l → m.readWord b = n.readWord b) :
    m.readWords a l = n.readWords a l :=
  List.map_congr_left fun i hi => h _ (by omega) (by have := List.mem_range.mp hi; omega)

theorem readComplex_congr {m n : Memory} {a l : Nat} (h : ∀ b, a ≤ b → b < a + 2 * l → m.readWord b = n.readWord b) :
    m.readComplex a l = n.readComplex a l :=
  List.map_congr_left fun i hi => by
    have := List.mem_range.mp hi
    rw [h _ (by omega) (by omega), h _ (by omega) (by omega)]

/-- The words of a complex array: real parts at even places (R15). -/
theorem wordsOfComplex_re (zs : List Cplx) (i : Nat) (hi : i < zs.length) : (wordsOfComplex zs).getD (2 * i) 0 = zs[i].re := by
  induction zs generalizing i with
  | nil => simp at hi
  | cons z zs ih =>
    cases i with
    | zero => rfl
    | succ i =>
      have := ih i (by simpa using hi)
      rw [show 2 * (i + 1) = 2 * i + 1 + 1 by omega]
      simpa [wordsOfComplex] using this

/-- The words of a complex array: imaginary parts at odd places (R15). -/
theorem wordsOfComplex_im (zs : List Cplx) (i : Nat) (hi : i < zs.length) : (wordsOfComplex zs).getD (2 * i + 1) 0 = zs[i].im := by
  induction zs generalizing i with
  | nil => simp at hi
  | cons z zs ih =>
    cases i with
    | zero => rfl
    | succ i =>
      have := ih i (by simpa using hi)
      rw [show 2 * (i + 1) + 1 = 2 * i + 1 + 1 + 1 by omega]
      simpa [wordsOfComplex] using this

/-- The real part of a complex value written (R15). -/
theorem readWord_writeComplex_re (m : Memory) (a : Nat) (zs : List Cplx) (i : Nat) (hi : i < zs.length) :
    (m.writeComplex a zs).readWord (a + 2 * i) = zs[i].re := by
  rw [Memory.writeComplex, readWord_writeWords_inside _ _ _ _ (by simp; omega), wordsOfComplex_re _ _ hi]

/-- The imaginary part of a complex value written (R15). -/
theorem readWord_writeComplex_im (m : Memory) (a : Nat) (zs : List Cplx) (i : Nat) (hi : i < zs.length) :
    (m.writeComplex a zs).readWord (a + 2 * i + 1) = zs[i].im := by
  rw [Memory.writeComplex, Nat.add_assoc, readWord_writeWords_inside _ _ _ _ (by simp; omega), wordsOfComplex_im _ _ hi]

/-- A byte outside a complex array written keeps its value (R15). -/
theorem readByte_writeComplex_outside (m : Memory) (a : Nat) (zs : List Cplx) (k : Nat)
    (h : ¬ (4 * a ≤ k ∧ k < 4 * (a + 2 * zs.length))) : (m.writeComplex a zs).readByte k = m.readByte k :=
  readByte_writeWords_outside m a _ k (by simpa using h)

theorem wf_writeComplex {m : Memory} (h : m.wf = true) (a : Nat) (zs : List Cplx) : (m.writeComplex a zs).wf = true :=
  wf_writeWords h _ _

theorem writeComplex_bound {m : Memory} {B : Nat} (h : ∀ c ∈ m, c.1 < 4 * B) {a : Nat} {zs : List Cplx}
    (hk : a + 2 * zs.length ≤ B) : ∀ c ∈ m.writeComplex a zs, c.1 < 4 * B :=
  writeWords_bound h (by simpa using hk)

end Sys2Proof.Laws
end

