-- ==== Sys2Proof/Laws/Arrays.lean ====
section
/-! SUPPORT. Elements and lengths of the internal arrays: tabulated arrays, the array of a pass with its index map (R160, R163), and
arrays read from memory. -/

namespace Sys2Proof.Laws

open Sys2Proof Sys2Proof.Machine

theorem elemF_tabulate {n i : Nat} (h : i < n) (f : Nat → F32) : elemF ((List.range n).map f) i = f i := by
  simp [elemF, List.getD, h]

theorem elemC_tabulate {n i : Nat} (h : i < n) (f : Nat → Cplx) : elemC ((List.range n).map f) i = f i := by
  simp [elemC, List.getD, h]

theorem elemF_eq {xs : List F32} {i : Nat} (h : i < xs.length) : elemF xs i = xs[i] := by
  simp [elemF, List.getD, h]

theorem elemC_eq {xs : List Cplx} {i : Nat} (h : i < xs.length) : elemC xs i = xs[i] := by
  simp [elemC, List.getD, h]

/-! ### Arrays read from memory (R16) -/

theorem elemF_readWords (m : Memory) (a n i : Nat) (h : i < n) : elemF (m.readWords a n) i = m.readWord (a + i) :=
  elemF_tabulate h _

theorem elemC_readComplex (m : Memory) (a n i : Nat) (h : i < n) :
    elemC (m.readComplex a n) i = ⟨m.readWord (a + 2 * i), m.readWord (a + 2 * i + 1)⟩ :=
  elemC_tabulate h _

/-! ### Passes -/

@[simp] theorem passArray_length (r ido l1 : Nat) (out : Nat → Nat → Nat → Cplx) :
    (passArray r ido l1 out).length = r * l1 * ido := by simp [passArray]

/-- The place of output `j` of the butterfly `(k, i)` lies in the array (R163). -/
theorem pass_place_lt {r ido l1 k i j : Nat} (hk : k < l1) (hi : i < ido) (hj : j < r) :
    i + ido * (k + l1 * j) < r * l1 * ido := by
  have h1 : k + l1 * j < r * l1 := by
    calc k + l1 * j < l1 + l1 * j := by omega
      _ = l1 * (j + 1) := by ring
      _ ≤ l1 * r := Nat.mul_le_mul_left _ hj
      _ = r * l1 := Nat.mul_comm _ _
  calc i + ido * (k + l1 * j) < ido + ido * (k + l1 * j) := by omega
    _ = (k + l1 * j + 1) * ido := by ring
    _ ≤ r * l1 * ido := Nat.mul_le_mul_right _ h1

/-- The array of a pass holds output `j` of the butterfly `(k, i)` at `i + ido*(k + l1*j)` (R160). -/
theorem elemC_passArray {r ido l1 k i j : Nat} (out : Nat → Nat → Nat → Cplx) (hk : k < l1) (hi : i < ido) (hj : j < r) :
    elemC (passArray r ido l1 out) (i + ido * (k + l1 * j)) = out k i j := by
  have hido : 0 < ido := by omega
  have hl1 : 0 < l1 := by omega
  rw [passArray, elemC_tabulate (pass_place_lt hk hi hj)]
  have h1 : (i + ido * (k + l1 * j)) % ido = i := by rw [Nat.add_mul_mod_self_left, Nat.mod_eq_of_lt hi]
  have h2 : (i + ido * (k + l1 * j)) / ido = k + l1 * j := by
    rw [Nat.add_mul_div_left _ _ hido, Nat.div_eq_of_lt hi, Nat.zero_add]
  have h3 : (k + l1 * j) % l1 = k := by rw [Nat.add_mul_mod_self_left, Nat.mod_eq_of_lt hk]
  have h4 : (k + l1 * j) / l1 = j := by
    rw [Nat.add_mul_div_left _ _ hl1, Nat.div_eq_of_lt hk, Nat.zero_add]
  rw [h1, h2, h3, h4]

/-- The place of input `j` of the butterfly `(k, i)` lies in the array (R163). -/
theorem pass_input_lt {r ido l1 k i j : Nat} (hk : k < l1) (hi : i < ido) (hj : j < r) :
    i + ido * (r * k + j) < r * l1 * ido := by
  have h1 : r * k + j < r * l1 := by
    calc r * k + j < r * k + r := by omega
      _ = r * (k + 1) := by ring
      _ ≤ r * l1 := Nat.mul_le_mul_left _ hk
  calc i + ido * (r * k + j) < ido + ido * (r * k + j) := by omega
    _ = (r * k + j + 1) * ido := by ring
    _ ≤ r * l1 * ido := Nat.mul_le_mul_right _ h1

/-- Input `j` of the butterfly `(k, i)` of a pass over an array read from memory (R160, R164). -/
theorem passIn_readComplex (m : Memory) (a : Nat) {r ido l1 k i j : Nat} (hk : k < l1) (hi : i < ido) (hj : j < r) :
    passIn r ido (m.readComplex a (r * l1 * ido)) k i j =
      ⟨m.readWord (a + 2 * (i + ido * (r * k + j))), m.readWord (a + 2 * (i + ido * (r * k + j)) + 1)⟩ :=
  elemC_readComplex m a _ _ (pass_input_lt hk hi hj)

/-- The length of a pass's output; a radix-5 pass has `ido = 1` (R163, R174). -/
theorem passOf_length (r : Radix) (sg : Sign) (ido l1 : Nat) (cc tw : List Cplx) (iw : Nat) (h5 : r = .r5 → ido = 1) :
    (passOf r sg ido l1 cc tw iw).length = r.toNat * l1 * ido := by
  cases r with
  | r2 => simp [passOf, pass2, Radix.toNat]
  | r3 => simp [passOf, pass3, Radix.toNat]
  | r4 => simp [passOf, pass4, Radix.toNat]
  | r5 => simp [passOf, pass5, Radix.toNat, h5 rfl]

/-! ### Transforms -/

@[simp] theorem reorder_length (M : Nat) (Z : List Cplx) : (reorder M Z).length = M := by simp [reorder]

@[simp] theorem imdct_out_length (m : Slot) (c : Context) (X : List F32) : (imdct m c X).out.length = mdctSize m := by
  simp [imdct]

@[simp] theorem mdct_out_length (m : Slot) (c : Context) (x : List F32) : (mdct m c x).out.length = mdctSize m / 2 := by
  simp [mdct]

theorem shortTransforms_length (c : Context) (X : List F32) (b : Nat) : (shortTransforms c X b).out.length = 256 * b := by
  induction b with
  | zero => rfl
  | succ b ih => simp [shortTransforms, ih, mdctSize]; omega

@[simp] theorem ifbTransform_length (ws : WindowSequence) (c0 c1 : Context) (X : List F32) :
    (ifbTransform ws c0 c1 X).out.length = 2048 := by
  cases ws <;> simp [ifbTransform, mdctSize, shortTransforms_length]

@[simp] theorem ifbCase_time_length (ws : WindowSequence) (s sp : Shape) (t O : List F32) :
    (ifbCase ws s sp t O).time.length = 1024 := by
  cases ws <;> simp [ifbCase, ifbOnlyLong, ifbLongStart, ifbEightShort, ifbLongStop, frameLen]

@[simp] theorem ifbCase_ovl_length (ws : WindowSequence) (s sp : Shape) (t O : List F32) :
    (ifbCase ws s sp t O).ovl.length = 1024 := by
  cases ws <;> simp [ifbCase, ifbOnlyLong, ifbLongStart, ifbEightShort, ifbLongStop, frameLen]

end Sys2Proof.Laws
end

