-- ==== Sys2Proof/Laws/State.lean ====
section
/-! SUPPORT. One lemma per field and named update of the state: what the update writes there, or that it leaves the field alone. Later
proofs unfold no record update. -/

namespace Sys2Proof.Laws

open Sys2Proof Sys2Proof.Machine

@[simp] theorem storeWords_params (s : State) (a : Word) (ws : List Word) : (s.storeWords a ws).params = s.params := rfl
@[simp] theorem storeWords_mem (s : State) (a : Word) (ws : List Word) : (s.storeWords a ws).mem = s.mem.writeWords a.toNat ws := rfl
@[simp] theorem storeWords_cp (s : State) (a : Word) (ws : List Word) : (s.storeWords a ws).cp = s.cp := rfl
@[simp] theorem storeWords_busy (s : State) (a : Word) (ws : List Word) : (s.storeWords a ws).busy = s.busy := rfl
@[simp] theorem storeWords_done (s : State) (a : Word) (ws : List Word) : (s.storeWords a ws).done = s.done := rfl
@[simp] theorem storeWords_fault (s : State) (a : Word) (ws : List Word) : (s.storeWords a ws).fault = s.fault := rfl
@[simp] theorem storeWords_fbV (s : State) (a : Word) (ws : List Word) : (s.storeWords a ws).fbV = s.fbV := rfl
@[simp] theorem storeWords_cuV (s : State) (a : Word) (ws : List Word) : (s.storeWords a ws).cuV = s.cuV := rfl
@[simp] theorem storeWords_fcode (s : State) (a : Word) (ws : List Word) : (s.storeWords a ws).fcode = s.fcode := rfl
@[simp] theorem storeWords_fcp (s : State) (a : Word) (ws : List Word) : (s.storeWords a ws).fcp = s.fcp := rfl
@[simp] theorem storeWords_finfo (s : State) (a : Word) (ws : List Word) : (s.storeWords a ws).finfo = s.finfo := rfl
@[simp] theorem storeWords_cfft0 (s : State) (a : Word) (ws : List Word) : (s.storeWords a ws).cfft0 = s.cfft0 := rfl
@[simp] theorem storeWords_cfft1 (s : State) (a : Word) (ws : List Word) : (s.storeWords a ws).cfft1 = s.cfft1 := rfl
@[simp] theorem storeWords_cfft2 (s : State) (a : Word) (ws : List Word) : (s.storeWords a ws).cfft2 = s.cfft2 := rfl
@[simp] theorem storeWords_z0 (s : State) (a : Word) (ws : List Word) : (s.storeWords a ws).z0 = s.z0 := rfl
@[simp] theorem storeWords_z1 (s : State) (a : Word) (ws : List Word) : (s.storeWords a ws).z1 = s.z1 := rfl
@[simp] theorem storeWords_transf (s : State) (a : Word) (ws : List Word) : (s.storeWords a ws).transf = s.transf := rfl
@[simp] theorem storeWords_windowed (s : State) (a : Word) (ws : List Word) : (s.storeWords a ws).windowed = s.windowed := rfl
@[simp] theorem storeWords_resetIn (s : State) (a : Word) (ws : List Word) : (s.storeWords a ws).resetIn = s.resetIn := rfl
@[simp] theorem storeWords_hostIn (s : State) (a : Word) (ws : List Word) : (s.storeWords a ws).hostIn = s.hostIn := rfl
@[simp] theorem storeWords_hostQueue (s : State) (a : Word) (ws : List Word) : (s.storeWords a ws).hostQueue = s.hostQueue := rfl
@[simp] theorem storeWords_hostReads (s : State) (a : Word) (ws : List Word) : (s.storeWords a ws).hostReads = s.hostReads := rfl
@[simp] theorem storeWords_freeCount (s : State) (a : Word) (ws : List Word) : (s.storeWords a ws).freeCount = s.freeCount := rfl

@[simp] theorem storeComplex_params (s : State) (a : Word) (zs : List Cplx) : (s.storeComplex a zs).params = s.params := rfl
@[simp] theorem storeComplex_mem (s : State) (a : Word) (zs : List Cplx) : (s.storeComplex a zs).mem = s.mem.writeComplex a.toNat zs := rfl
@[simp] theorem storeComplex_cp (s : State) (a : Word) (zs : List Cplx) : (s.storeComplex a zs).cp = s.cp := rfl
@[simp] theorem storeComplex_busy (s : State) (a : Word) (zs : List Cplx) : (s.storeComplex a zs).busy = s.busy := rfl
@[simp] theorem storeComplex_done (s : State) (a : Word) (zs : List Cplx) : (s.storeComplex a zs).done = s.done := rfl
@[simp] theorem storeComplex_fault (s : State) (a : Word) (zs : List Cplx) : (s.storeComplex a zs).fault = s.fault := rfl
@[simp] theorem storeComplex_fbV (s : State) (a : Word) (zs : List Cplx) : (s.storeComplex a zs).fbV = s.fbV := rfl
@[simp] theorem storeComplex_cuV (s : State) (a : Word) (zs : List Cplx) : (s.storeComplex a zs).cuV = s.cuV := rfl
@[simp] theorem storeComplex_fcode (s : State) (a : Word) (zs : List Cplx) : (s.storeComplex a zs).fcode = s.fcode := rfl
@[simp] theorem storeComplex_fcp (s : State) (a : Word) (zs : List Cplx) : (s.storeComplex a zs).fcp = s.fcp := rfl
@[simp] theorem storeComplex_finfo (s : State) (a : Word) (zs : List Cplx) : (s.storeComplex a zs).finfo = s.finfo := rfl
@[simp] theorem storeComplex_cfft0 (s : State) (a : Word) (zs : List Cplx) : (s.storeComplex a zs).cfft0 = s.cfft0 := rfl
@[simp] theorem storeComplex_cfft1 (s : State) (a : Word) (zs : List Cplx) : (s.storeComplex a zs).cfft1 = s.cfft1 := rfl
@[simp] theorem storeComplex_cfft2 (s : State) (a : Word) (zs : List Cplx) : (s.storeComplex a zs).cfft2 = s.cfft2 := rfl
@[simp] theorem storeComplex_z0 (s : State) (a : Word) (zs : List Cplx) : (s.storeComplex a zs).z0 = s.z0 := rfl
@[simp] theorem storeComplex_z1 (s : State) (a : Word) (zs : List Cplx) : (s.storeComplex a zs).z1 = s.z1 := rfl
@[simp] theorem storeComplex_transf (s : State) (a : Word) (zs : List Cplx) : (s.storeComplex a zs).transf = s.transf := rfl
@[simp] theorem storeComplex_windowed (s : State) (a : Word) (zs : List Cplx) : (s.storeComplex a zs).windowed = s.windowed := rfl
@[simp] theorem storeComplex_resetIn (s : State) (a : Word) (zs : List Cplx) : (s.storeComplex a zs).resetIn = s.resetIn := rfl
@[simp] theorem storeComplex_hostIn (s : State) (a : Word) (zs : List Cplx) : (s.storeComplex a zs).hostIn = s.hostIn := rfl
@[simp] theorem storeComplex_hostQueue (s : State) (a : Word) (zs : List Cplx) : (s.storeComplex a zs).hostQueue = s.hostQueue := rfl
@[simp] theorem storeComplex_hostReads (s : State) (a : Word) (zs : List Cplx) : (s.storeComplex a zs).hostReads = s.hostReads := rfl
@[simp] theorem storeComplex_freeCount (s : State) (a : Word) (zs : List Cplx) : (s.storeComplex a zs).freeCount = s.freeCount := rfl

@[simp] theorem setTransf_params (s : State) (t : List F32) : (s.setTransf t).params = s.params := rfl
@[simp] theorem setTransf_mem (s : State) (t : List F32) : (s.setTransf t).mem = s.mem := rfl
@[simp] theorem setTransf_cp (s : State) (t : List F32) : (s.setTransf t).cp = s.cp := rfl
@[simp] theorem setTransf_busy (s : State) (t : List F32) : (s.setTransf t).busy = s.busy := rfl
@[simp] theorem setTransf_done (s : State) (t : List F32) : (s.setTransf t).done = s.done := rfl
@[simp] theorem setTransf_fault (s : State) (t : List F32) : (s.setTransf t).fault = s.fault := rfl
@[simp] theorem setTransf_fbV (s : State) (t : List F32) : (s.setTransf t).fbV = s.fbV := rfl
@[simp] theorem setTransf_cuV (s : State) (t : List F32) : (s.setTransf t).cuV = s.cuV := rfl
@[simp] theorem setTransf_fcode (s : State) (t : List F32) : (s.setTransf t).fcode = s.fcode := rfl
@[simp] theorem setTransf_fcp (s : State) (t : List F32) : (s.setTransf t).fcp = s.fcp := rfl
@[simp] theorem setTransf_finfo (s : State) (t : List F32) : (s.setTransf t).finfo = s.finfo := rfl
@[simp] theorem setTransf_cfft0 (s : State) (t : List F32) : (s.setTransf t).cfft0 = s.cfft0 := rfl
@[simp] theorem setTransf_cfft1 (s : State) (t : List F32) : (s.setTransf t).cfft1 = s.cfft1 := rfl
@[simp] theorem setTransf_cfft2 (s : State) (t : List F32) : (s.setTransf t).cfft2 = s.cfft2 := rfl
@[simp] theorem setTransf_z0 (s : State) (t : List F32) : (s.setTransf t).z0 = s.z0 := rfl
@[simp] theorem setTransf_z1 (s : State) (t : List F32) : (s.setTransf t).z1 = s.z1 := rfl
@[simp] theorem setTransf_transf (s : State) (t : List F32) : (s.setTransf t).transf = t := rfl
@[simp] theorem setTransf_windowed (s : State) (t : List F32) : (s.setTransf t).windowed = s.windowed := rfl
@[simp] theorem setTransf_resetIn (s : State) (t : List F32) : (s.setTransf t).resetIn = s.resetIn := rfl
@[simp] theorem setTransf_hostIn (s : State) (t : List F32) : (s.setTransf t).hostIn = s.hostIn := rfl
@[simp] theorem setTransf_hostQueue (s : State) (t : List F32) : (s.setTransf t).hostQueue = s.hostQueue := rfl
@[simp] theorem setTransf_hostReads (s : State) (t : List F32) : (s.setTransf t).hostReads = s.hostReads := rfl
@[simp] theorem setTransf_freeCount (s : State) (t : List F32) : (s.setTransf t).freeCount = s.freeCount := rfl

@[simp] theorem setWindowed_params (s : State) (w : List F32) : (s.setWindowed w).params = s.params := rfl
@[simp] theorem setWindowed_mem (s : State) (w : List F32) : (s.setWindowed w).mem = s.mem := rfl
@[simp] theorem setWindowed_cp (s : State) (w : List F32) : (s.setWindowed w).cp = s.cp := rfl
@[simp] theorem setWindowed_busy (s : State) (w : List F32) : (s.setWindowed w).busy = s.busy := rfl
@[simp] theorem setWindowed_done (s : State) (w : List F32) : (s.setWindowed w).done = s.done := rfl
@[simp] theorem setWindowed_fault (s : State) (w : List F32) : (s.setWindowed w).fault = s.fault := rfl
@[simp] theorem setWindowed_fbV (s : State) (w : List F32) : (s.setWindowed w).fbV = s.fbV := rfl
@[simp] theorem setWindowed_cuV (s : State) (w : List F32) : (s.setWindowed w).cuV = s.cuV := rfl
@[simp] theorem setWindowed_fcode (s : State) (w : List F32) : (s.setWindowed w).fcode = s.fcode := rfl
@[simp] theorem setWindowed_fcp (s : State) (w : List F32) : (s.setWindowed w).fcp = s.fcp := rfl
@[simp] theorem setWindowed_finfo (s : State) (w : List F32) : (s.setWindowed w).finfo = s.finfo := rfl
@[simp] theorem setWindowed_cfft0 (s : State) (w : List F32) : (s.setWindowed w).cfft0 = s.cfft0 := rfl
@[simp] theorem setWindowed_cfft1 (s : State) (w : List F32) : (s.setWindowed w).cfft1 = s.cfft1 := rfl
@[simp] theorem setWindowed_cfft2 (s : State) (w : List F32) : (s.setWindowed w).cfft2 = s.cfft2 := rfl
@[simp] theorem setWindowed_z0 (s : State) (w : List F32) : (s.setWindowed w).z0 = s.z0 := rfl
@[simp] theorem setWindowed_z1 (s : State) (w : List F32) : (s.setWindowed w).z1 = s.z1 := rfl
@[simp] theorem setWindowed_transf (s : State) (w : List F32) : (s.setWindowed w).transf = s.transf := rfl
@[simp] theorem setWindowed_windowed (s : State) (w : List F32) : (s.setWindowed w).windowed = w := rfl
@[simp] theorem setWindowed_resetIn (s : State) (w : List F32) : (s.setWindowed w).resetIn = s.resetIn := rfl
@[simp] theorem setWindowed_hostIn (s : State) (w : List F32) : (s.setWindowed w).hostIn = s.hostIn := rfl
@[simp] theorem setWindowed_hostQueue (s : State) (w : List F32) : (s.setWindowed w).hostQueue = s.hostQueue := rfl
@[simp] theorem setWindowed_hostReads (s : State) (w : List F32) : (s.setWindowed w).hostReads = s.hostReads := rfl
@[simp] theorem setWindowed_freeCount (s : State) (w : List F32) : (s.setWindowed w).freeCount = s.freeCount := rfl

@[simp] theorem advance_params (s : State) : (s.advance).params = s.params := rfl
@[simp] theorem advance_mem (s : State) : (s.advance).mem = s.mem := rfl
@[simp] theorem advance_cp (s : State) : (s.advance).cp = s.cp + 4 := rfl
@[simp] theorem advance_busy (s : State) : (s.advance).busy = s.busy := rfl
@[simp] theorem advance_done (s : State) : (s.advance).done = s.done := rfl
@[simp] theorem advance_fault (s : State) : (s.advance).fault = s.fault := rfl
@[simp] theorem advance_fbV (s : State) : (s.advance).fbV = s.fbV := rfl
@[simp] theorem advance_cuV (s : State) : (s.advance).cuV = s.cuV := rfl
@[simp] theorem advance_fcode (s : State) : (s.advance).fcode = s.fcode := rfl
@[simp] theorem advance_fcp (s : State) : (s.advance).fcp = s.fcp := rfl
@[simp] theorem advance_finfo (s : State) : (s.advance).finfo = s.finfo := rfl
@[simp] theorem advance_cfft0 (s : State) : (s.advance).cfft0 = s.cfft0 := rfl
@[simp] theorem advance_cfft1 (s : State) : (s.advance).cfft1 = s.cfft1 := rfl
@[simp] theorem advance_cfft2 (s : State) : (s.advance).cfft2 = s.cfft2 := rfl
@[simp] theorem advance_z0 (s : State) : (s.advance).z0 = s.z0 := rfl
@[simp] theorem advance_z1 (s : State) : (s.advance).z1 = s.z1 := rfl
@[simp] theorem advance_transf (s : State) : (s.advance).transf = s.transf := rfl
@[simp] theorem advance_windowed (s : State) : (s.advance).windowed = s.windowed := rfl
@[simp] theorem advance_resetIn (s : State) : (s.advance).resetIn = s.resetIn := rfl
@[simp] theorem advance_hostIn (s : State) : (s.advance).hostIn = s.hostIn := rfl
@[simp] theorem advance_hostQueue (s : State) : (s.advance).hostQueue = s.hostQueue := rfl
@[simp] theorem advance_hostReads (s : State) : (s.advance).hostReads = s.hostReads := rfl
@[simp] theorem advance_freeCount (s : State) : (s.advance).freeCount = s.freeCount := rfl

@[simp] theorem raise_params (s : State) (c : FaultCode) (v : Word) : (s.raise c v).params = s.params := rfl
@[simp] theorem raise_mem (s : State) (c : FaultCode) (v : Word) : (s.raise c v).mem = s.mem := rfl
@[simp] theorem raise_cp (s : State) (c : FaultCode) (v : Word) : (s.raise c v).cp = s.cp := rfl
@[simp] theorem raise_busy (s : State) (c : FaultCode) (v : Word) : (s.raise c v).busy = false := rfl
@[simp] theorem raise_done (s : State) (c : FaultCode) (v : Word) : (s.raise c v).done = s.done := rfl
@[simp] theorem raise_fault (s : State) (c : FaultCode) (v : Word) : (s.raise c v).fault = true := rfl
@[simp] theorem raise_fbV (s : State) (c : FaultCode) (v : Word) : (s.raise c v).fbV = s.fbV := rfl
@[simp] theorem raise_cuV (s : State) (c : FaultCode) (v : Word) : (s.raise c v).cuV = s.cuV := rfl
@[simp] theorem raise_fcode (s : State) (c : FaultCode) (v : Word) : (s.raise c v).fcode = faultNumber c := rfl
@[simp] theorem raise_fcp (s : State) (c : FaultCode) (v : Word) : (s.raise c v).fcp = s.cp := rfl
@[simp] theorem raise_finfo (s : State) (c : FaultCode) (v : Word) : (s.raise c v).finfo = v := rfl
@[simp] theorem raise_cfft0 (s : State) (c : FaultCode) (v : Word) : (s.raise c v).cfft0 = s.cfft0 := rfl
@[simp] theorem raise_cfft1 (s : State) (c : FaultCode) (v : Word) : (s.raise c v).cfft1 = s.cfft1 := rfl
@[simp] theorem raise_cfft2 (s : State) (c : FaultCode) (v : Word) : (s.raise c v).cfft2 = s.cfft2 := rfl
@[simp] theorem raise_z0 (s : State) (c : FaultCode) (v : Word) : (s.raise c v).z0 = s.z0 := rfl
@[simp] theorem raise_z1 (s : State) (c : FaultCode) (v : Word) : (s.raise c v).z1 = s.z1 := rfl
@[simp] theorem raise_transf (s : State) (c : FaultCode) (v : Word) : (s.raise c v).transf = s.transf := rfl
@[simp] theorem raise_windowed (s : State) (c : FaultCode) (v : Word) : (s.raise c v).windowed = s.windowed := rfl
@[simp] theorem raise_resetIn (s : State) (c : FaultCode) (v : Word) : (s.raise c v).resetIn = s.resetIn := rfl
@[simp] theorem raise_hostIn (s : State) (c : FaultCode) (v : Word) : (s.raise c v).hostIn = s.hostIn := rfl
@[simp] theorem raise_hostQueue (s : State) (c : FaultCode) (v : Word) : (s.raise c v).hostQueue = s.hostQueue := rfl
@[simp] theorem raise_hostReads (s : State) (c : FaultCode) (v : Word) : (s.raise c v).hostReads = s.hostReads := rfl
@[simp] theorem raise_freeCount (s : State) (c : FaultCode) (v : Word) : (s.raise c v).freeCount = s.freeCount := rfl

@[simp] theorem startRun_params (s : State) : (s.startRun).params = s.params := rfl
@[simp] theorem startRun_mem (s : State) : (s.startRun).mem = s.mem := rfl
@[simp] theorem startRun_cp (s : State) : (s.startRun).cp = s.cp := rfl
@[simp] theorem startRun_busy (s : State) : (s.startRun).busy = true := rfl
@[simp] theorem startRun_done (s : State) : (s.startRun).done = false := rfl
@[simp] theorem startRun_fault (s : State) : (s.startRun).fault = s.fault := rfl
@[simp] theorem startRun_fbV (s : State) : (s.startRun).fbV = s.fbV := rfl
@[simp] theorem startRun_cuV (s : State) : (s.startRun).cuV = s.cuV := rfl
@[simp] theorem startRun_fcode (s : State) : (s.startRun).fcode = s.fcode := rfl
@[simp] theorem startRun_fcp (s : State) : (s.startRun).fcp = s.fcp := rfl
@[simp] theorem startRun_finfo (s : State) : (s.startRun).finfo = s.finfo := rfl
@[simp] theorem startRun_cfft0 (s : State) : (s.startRun).cfft0 = s.cfft0 := rfl
@[simp] theorem startRun_cfft1 (s : State) : (s.startRun).cfft1 = s.cfft1 := rfl
@[simp] theorem startRun_cfft2 (s : State) : (s.startRun).cfft2 = s.cfft2 := rfl
@[simp] theorem startRun_z0 (s : State) : (s.startRun).z0 = s.z0 := rfl
@[simp] theorem startRun_z1 (s : State) : (s.startRun).z1 = s.z1 := rfl
@[simp] theorem startRun_transf (s : State) : (s.startRun).transf = s.transf := rfl
@[simp] theorem startRun_windowed (s : State) : (s.startRun).windowed = s.windowed := rfl
@[simp] theorem startRun_resetIn (s : State) : (s.startRun).resetIn = s.resetIn := rfl
@[simp] theorem startRun_hostIn (s : State) : (s.startRun).hostIn = s.hostIn := rfl
@[simp] theorem startRun_hostQueue (s : State) : (s.startRun).hostQueue = s.hostQueue := rfl
@[simp] theorem startRun_hostReads (s : State) : (s.startRun).hostReads = s.hostReads := rfl
@[simp] theorem startRun_freeCount (s : State) : (s.startRun).freeCount = s.freeCount := rfl

@[simp] theorem haltRun_params (s : State) : (s.haltRun).params = s.params := rfl
@[simp] theorem haltRun_mem (s : State) : (s.haltRun).mem = s.mem := rfl
@[simp] theorem haltRun_cp (s : State) : (s.haltRun).cp = s.cp := rfl
@[simp] theorem haltRun_busy (s : State) : (s.haltRun).busy = false := rfl
@[simp] theorem haltRun_done (s : State) : (s.haltRun).done = true := rfl
@[simp] theorem haltRun_fault (s : State) : (s.haltRun).fault = s.fault := rfl
@[simp] theorem haltRun_fbV (s : State) : (s.haltRun).fbV = s.fbV := rfl
@[simp] theorem haltRun_cuV (s : State) : (s.haltRun).cuV = s.cuV := rfl
@[simp] theorem haltRun_fcode (s : State) : (s.haltRun).fcode = s.fcode := rfl
@[simp] theorem haltRun_fcp (s : State) : (s.haltRun).fcp = s.fcp := rfl
@[simp] theorem haltRun_finfo (s : State) : (s.haltRun).finfo = s.finfo := rfl
@[simp] theorem haltRun_cfft0 (s : State) : (s.haltRun).cfft0 = s.cfft0 := rfl
@[simp] theorem haltRun_cfft1 (s : State) : (s.haltRun).cfft1 = s.cfft1 := rfl
@[simp] theorem haltRun_cfft2 (s : State) : (s.haltRun).cfft2 = s.cfft2 := rfl
@[simp] theorem haltRun_z0 (s : State) : (s.haltRun).z0 = s.z0 := rfl
@[simp] theorem haltRun_z1 (s : State) : (s.haltRun).z1 = s.z1 := rfl
@[simp] theorem haltRun_transf (s : State) : (s.haltRun).transf = s.transf := rfl
@[simp] theorem haltRun_windowed (s : State) : (s.haltRun).windowed = s.windowed := rfl
@[simp] theorem haltRun_resetIn (s : State) : (s.haltRun).resetIn = s.resetIn := rfl
@[simp] theorem haltRun_hostIn (s : State) : (s.haltRun).hostIn = s.hostIn := rfl
@[simp] theorem haltRun_hostQueue (s : State) : (s.haltRun).hostQueue = s.hostQueue := rfl
@[simp] theorem haltRun_hostReads (s : State) : (s.haltRun).hostReads = s.hostReads := rfl
@[simp] theorem haltRun_freeCount (s : State) : (s.haltRun).freeCount = s.freeCount := rfl

@[simp] theorem markFb_params (s : State) : (s.markFb).params = s.params := rfl
@[simp] theorem markFb_mem (s : State) : (s.markFb).mem = s.mem := rfl
@[simp] theorem markFb_cp (s : State) : (s.markFb).cp = s.cp := rfl
@[simp] theorem markFb_busy (s : State) : (s.markFb).busy = s.busy := rfl
@[simp] theorem markFb_done (s : State) : (s.markFb).done = s.done := rfl
@[simp] theorem markFb_fault (s : State) : (s.markFb).fault = s.fault := rfl
@[simp] theorem markFb_fbV (s : State) : (s.markFb).fbV = true := rfl
@[simp] theorem markFb_cuV (s : State) : (s.markFb).cuV = s.cuV := rfl
@[simp] theorem markFb_fcode (s : State) : (s.markFb).fcode = s.fcode := rfl
@[simp] theorem markFb_fcp (s : State) : (s.markFb).fcp = s.fcp := rfl
@[simp] theorem markFb_finfo (s : State) : (s.markFb).finfo = s.finfo := rfl
@[simp] theorem markFb_cfft0 (s : State) : (s.markFb).cfft0 = s.cfft0 := rfl
@[simp] theorem markFb_cfft1 (s : State) : (s.markFb).cfft1 = s.cfft1 := rfl
@[simp] theorem markFb_cfft2 (s : State) : (s.markFb).cfft2 = s.cfft2 := rfl
@[simp] theorem markFb_z0 (s : State) : (s.markFb).z0 = s.z0 := rfl
@[simp] theorem markFb_z1 (s : State) : (s.markFb).z1 = s.z1 := rfl
@[simp] theorem markFb_transf (s : State) : (s.markFb).transf = s.transf := rfl
@[simp] theorem markFb_windowed (s : State) : (s.markFb).windowed = s.windowed := rfl
@[simp] theorem markFb_resetIn (s : State) : (s.markFb).resetIn = s.resetIn := rfl
@[simp] theorem markFb_hostIn (s : State) : (s.markFb).hostIn = s.hostIn := rfl
@[simp] theorem markFb_hostQueue (s : State) : (s.markFb).hostQueue = s.hostQueue := rfl
@[simp] theorem markFb_hostReads (s : State) : (s.markFb).hostReads = s.hostReads := rfl
@[simp] theorem markFb_freeCount (s : State) : (s.markFb).freeCount = s.freeCount := rfl

@[simp] theorem markCu_params (s : State) : (s.markCu).params = s.params := rfl
@[simp] theorem markCu_mem (s : State) : (s.markCu).mem = s.mem := rfl
@[simp] theorem markCu_cp (s : State) : (s.markCu).cp = s.cp := rfl
@[simp] theorem markCu_busy (s : State) : (s.markCu).busy = s.busy := rfl
@[simp] theorem markCu_done (s : State) : (s.markCu).done = s.done := rfl
@[simp] theorem markCu_fault (s : State) : (s.markCu).fault = s.fault := rfl
@[simp] theorem markCu_fbV (s : State) : (s.markCu).fbV = s.fbV := rfl
@[simp] theorem markCu_cuV (s : State) : (s.markCu).cuV = true := rfl
@[simp] theorem markCu_fcode (s : State) : (s.markCu).fcode = s.fcode := rfl
@[simp] theorem markCu_fcp (s : State) : (s.markCu).fcp = s.fcp := rfl
@[simp] theorem markCu_finfo (s : State) : (s.markCu).finfo = s.finfo := rfl
@[simp] theorem markCu_cfft0 (s : State) : (s.markCu).cfft0 = s.cfft0 := rfl
@[simp] theorem markCu_cfft1 (s : State) : (s.markCu).cfft1 = s.cfft1 := rfl
@[simp] theorem markCu_cfft2 (s : State) : (s.markCu).cfft2 = s.cfft2 := rfl
@[simp] theorem markCu_z0 (s : State) : (s.markCu).z0 = s.z0 := rfl
@[simp] theorem markCu_z1 (s : State) : (s.markCu).z1 = s.z1 := rfl
@[simp] theorem markCu_transf (s : State) : (s.markCu).transf = s.transf := rfl
@[simp] theorem markCu_windowed (s : State) : (s.markCu).windowed = s.windowed := rfl
@[simp] theorem markCu_resetIn (s : State) : (s.markCu).resetIn = s.resetIn := rfl
@[simp] theorem markCu_hostIn (s : State) : (s.markCu).hostIn = s.hostIn := rfl
@[simp] theorem markCu_hostQueue (s : State) : (s.markCu).hostQueue = s.hostQueue := rfl
@[simp] theorem markCu_hostReads (s : State) : (s.markCu).hostReads = s.hostReads := rfl
@[simp] theorem markCu_freeCount (s : State) : (s.markCu).freeCount = s.freeCount := rfl

@[simp] theorem answer_params (s : State) (ap : Aperture) (off : Nat) (v : Word) : (s.answer ap off v).params = s.params := rfl
@[simp] theorem answer_mem (s : State) (ap : Aperture) (off : Nat) (v : Word) : (s.answer ap off v).mem = s.mem := rfl
@[simp] theorem answer_cp (s : State) (ap : Aperture) (off : Nat) (v : Word) : (s.answer ap off v).cp = s.cp := rfl
@[simp] theorem answer_busy (s : State) (ap : Aperture) (off : Nat) (v : Word) : (s.answer ap off v).busy = s.busy := rfl
@[simp] theorem answer_done (s : State) (ap : Aperture) (off : Nat) (v : Word) : (s.answer ap off v).done = s.done := rfl
@[simp] theorem answer_fault (s : State) (ap : Aperture) (off : Nat) (v : Word) : (s.answer ap off v).fault = s.fault := rfl
@[simp] theorem answer_fbV (s : State) (ap : Aperture) (off : Nat) (v : Word) : (s.answer ap off v).fbV = s.fbV := rfl
@[simp] theorem answer_cuV (s : State) (ap : Aperture) (off : Nat) (v : Word) : (s.answer ap off v).cuV = s.cuV := rfl
@[simp] theorem answer_fcode (s : State) (ap : Aperture) (off : Nat) (v : Word) : (s.answer ap off v).fcode = s.fcode := rfl
@[simp] theorem answer_fcp (s : State) (ap : Aperture) (off : Nat) (v : Word) : (s.answer ap off v).fcp = s.fcp := rfl
@[simp] theorem answer_finfo (s : State) (ap : Aperture) (off : Nat) (v : Word) : (s.answer ap off v).finfo = s.finfo := rfl
@[simp] theorem answer_cfft0 (s : State) (ap : Aperture) (off : Nat) (v : Word) : (s.answer ap off v).cfft0 = s.cfft0 := rfl
@[simp] theorem answer_cfft1 (s : State) (ap : Aperture) (off : Nat) (v : Word) : (s.answer ap off v).cfft1 = s.cfft1 := rfl
@[simp] theorem answer_cfft2 (s : State) (ap : Aperture) (off : Nat) (v : Word) : (s.answer ap off v).cfft2 = s.cfft2 := rfl
@[simp] theorem answer_z0 (s : State) (ap : Aperture) (off : Nat) (v : Word) : (s.answer ap off v).z0 = s.z0 := rfl
@[simp] theorem answer_z1 (s : State) (ap : Aperture) (off : Nat) (v : Word) : (s.answer ap off v).z1 = s.z1 := rfl
@[simp] theorem answer_transf (s : State) (ap : Aperture) (off : Nat) (v : Word) : (s.answer ap off v).transf = s.transf := rfl
@[simp] theorem answer_windowed (s : State) (ap : Aperture) (off : Nat) (v : Word) : (s.answer ap off v).windowed = s.windowed := rfl
@[simp] theorem answer_resetIn (s : State) (ap : Aperture) (off : Nat) (v : Word) : (s.answer ap off v).resetIn = s.resetIn := rfl
@[simp] theorem answer_hostIn (s : State) (ap : Aperture) (off : Nat) (v : Word) : (s.answer ap off v).hostIn = s.hostIn := rfl
@[simp] theorem answer_hostQueue (s : State) (ap : Aperture) (off : Nat) (v : Word) : (s.answer ap off v).hostQueue = s.hostQueue := rfl
@[simp] theorem answer_hostReads (s : State) (ap : Aperture) (off : Nat) (v : Word) : (s.answer ap off v).hostReads = ⟨ap, off, v⟩ :: s.hostReads := rfl
@[simp] theorem answer_freeCount (s : State) (ap : Aperture) (off : Nat) (v : Word) : (s.answer ap off v).freeCount = s.freeCount := rfl

@[simp] theorem sampleInputs_params (s : State) : (s.sampleInputs).params = s.params := rfl
@[simp] theorem sampleInputs_mem (s : State) : (s.sampleInputs).mem = s.mem := rfl
@[simp] theorem sampleInputs_cp (s : State) : (s.sampleInputs).cp = s.cp := rfl
@[simp] theorem sampleInputs_busy (s : State) : (s.sampleInputs).busy = s.busy := rfl
@[simp] theorem sampleInputs_done (s : State) : (s.sampleInputs).done = s.done := rfl
@[simp] theorem sampleInputs_fault (s : State) : (s.sampleInputs).fault = s.fault := rfl
@[simp] theorem sampleInputs_fbV (s : State) : (s.sampleInputs).fbV = s.fbV := rfl
@[simp] theorem sampleInputs_cuV (s : State) : (s.sampleInputs).cuV = s.cuV := rfl
@[simp] theorem sampleInputs_fcode (s : State) : (s.sampleInputs).fcode = s.fcode := rfl
@[simp] theorem sampleInputs_fcp (s : State) : (s.sampleInputs).fcp = s.fcp := rfl
@[simp] theorem sampleInputs_finfo (s : State) : (s.sampleInputs).finfo = s.finfo := rfl
@[simp] theorem sampleInputs_cfft0 (s : State) : (s.sampleInputs).cfft0 = s.cfft0 := rfl
@[simp] theorem sampleInputs_cfft1 (s : State) : (s.sampleInputs).cfft1 = s.cfft1 := rfl
@[simp] theorem sampleInputs_cfft2 (s : State) : (s.sampleInputs).cfft2 = s.cfft2 := rfl
@[simp] theorem sampleInputs_z0 (s : State) : (s.sampleInputs).z0 = s.z0 := rfl
@[simp] theorem sampleInputs_z1 (s : State) : (s.sampleInputs).z1 = s.z1 := rfl
@[simp] theorem sampleInputs_transf (s : State) : (s.sampleInputs).transf = s.transf := rfl
@[simp] theorem sampleInputs_windowed (s : State) : (s.sampleInputs).windowed = s.windowed := rfl
@[simp] theorem sampleInputs_resetIn (s : State) : (s.sampleInputs).resetIn = s.resetIn.tail := rfl
@[simp] theorem sampleInputs_hostIn (s : State) : (s.sampleInputs).hostIn = s.hostIn.tail := rfl
@[simp] theorem sampleInputs_hostQueue (s : State) : (s.sampleInputs).hostQueue =
    if s.busy then s.outstanding.filter (· ≠ .statusPoll) else s.outstanding := rfl
@[simp] theorem sampleInputs_hostReads (s : State) : (s.sampleInputs).hostReads =
    if s.busy then List.replicate (s.outstanding.count .statusPoll) ⟨.registers, 8, 1⟩ ++ s.hostReads else s.hostReads := rfl
@[simp] theorem sampleInputs_freeCount (s : State) : (s.sampleInputs).freeCount = s.freeCount := rfl

@[simp] theorem resetKeepingDmem_params (s : State) : (s.resetKeepingDmem).params = s.params := rfl
@[simp] theorem resetKeepingDmem_mem (s : State) : (s.resetKeepingDmem).mem = s.mem := rfl
@[simp] theorem resetKeepingDmem_cp (s : State) : (s.resetKeepingDmem).cp = 0 := rfl
@[simp] theorem resetKeepingDmem_busy (s : State) : (s.resetKeepingDmem).busy = false := rfl
@[simp] theorem resetKeepingDmem_done (s : State) : (s.resetKeepingDmem).done = false := rfl
@[simp] theorem resetKeepingDmem_fault (s : State) : (s.resetKeepingDmem).fault = false := rfl
@[simp] theorem resetKeepingDmem_fbV (s : State) : (s.resetKeepingDmem).fbV = false := rfl
@[simp] theorem resetKeepingDmem_cuV (s : State) : (s.resetKeepingDmem).cuV = false := rfl
@[simp] theorem resetKeepingDmem_fcode (s : State) : (s.resetKeepingDmem).fcode = 0 := rfl
@[simp] theorem resetKeepingDmem_fcp (s : State) : (s.resetKeepingDmem).fcp = 0 := rfl
@[simp] theorem resetKeepingDmem_finfo (s : State) : (s.resetKeepingDmem).finfo = 0 := rfl
@[simp] theorem resetKeepingDmem_cfft0 (s : State) : (s.resetKeepingDmem).cfft0 = Context.unbuilt := rfl
@[simp] theorem resetKeepingDmem_cfft1 (s : State) : (s.resetKeepingDmem).cfft1 = Context.unbuilt := rfl
@[simp] theorem resetKeepingDmem_cfft2 (s : State) : (s.resetKeepingDmem).cfft2 = Context.unbuilt := rfl
@[simp] theorem resetKeepingDmem_z0 (s : State) : (s.resetKeepingDmem).z0 = [] := rfl
@[simp] theorem resetKeepingDmem_z1 (s : State) : (s.resetKeepingDmem).z1 = [] := rfl
@[simp] theorem resetKeepingDmem_transf (s : State) : (s.resetKeepingDmem).transf = [] := rfl
@[simp] theorem resetKeepingDmem_windowed (s : State) : (s.resetKeepingDmem).windowed = [] := rfl
@[simp] theorem resetKeepingDmem_resetIn (s : State) : (s.resetKeepingDmem).resetIn = s.resetIn := rfl
@[simp] theorem resetKeepingDmem_hostIn (s : State) : (s.resetKeepingDmem).hostIn = s.hostIn := rfl
@[simp] theorem resetKeepingDmem_hostQueue (s : State) : (s.resetKeepingDmem).hostQueue = s.hostQueue := rfl
@[simp] theorem resetKeepingDmem_hostReads (s : State) : (s.resetKeepingDmem).hostReads = s.hostReads := rfl
@[simp] theorem resetKeepingDmem_freeCount (s : State) : (s.resetKeepingDmem).freeCount = s.freeCount := rfl

@[simp] theorem setCtx_c0_params (s : State) (x : Context) : (s.setCtx .c0 x).params = s.params := rfl
@[simp] theorem setCtx_c0_mem (s : State) (x : Context) : (s.setCtx .c0 x).mem = s.mem := rfl
@[simp] theorem setCtx_c0_cp (s : State) (x : Context) : (s.setCtx .c0 x).cp = s.cp := rfl
@[simp] theorem setCtx_c0_busy (s : State) (x : Context) : (s.setCtx .c0 x).busy = s.busy := rfl
@[simp] theorem setCtx_c0_done (s : State) (x : Context) : (s.setCtx .c0 x).done = s.done := rfl
@[simp] theorem setCtx_c0_fault (s : State) (x : Context) : (s.setCtx .c0 x).fault = s.fault := rfl
@[simp] theorem setCtx_c0_fbV (s : State) (x : Context) : (s.setCtx .c0 x).fbV = s.fbV := rfl
@[simp] theorem setCtx_c0_cuV (s : State) (x : Context) : (s.setCtx .c0 x).cuV = s.cuV := rfl
@[simp] theorem setCtx_c0_fcode (s : State) (x : Context) : (s.setCtx .c0 x).fcode = s.fcode := rfl
@[simp] theorem setCtx_c0_fcp (s : State) (x : Context) : (s.setCtx .c0 x).fcp = s.fcp := rfl
@[simp] theorem setCtx_c0_finfo (s : State) (x : Context) : (s.setCtx .c0 x).finfo = s.finfo := rfl
@[simp] theorem setCtx_c0_cfft0 (s : State) (x : Context) : (s.setCtx .c0 x).cfft0 = x := rfl
@[simp] theorem setCtx_c0_cfft1 (s : State) (x : Context) : (s.setCtx .c0 x).cfft1 = s.cfft1 := rfl
@[simp] theorem setCtx_c0_cfft2 (s : State) (x : Context) : (s.setCtx .c0 x).cfft2 = s.cfft2 := rfl
@[simp] theorem setCtx_c0_z0 (s : State) (x : Context) : (s.setCtx .c0 x).z0 = s.z0 := rfl
@[simp] theorem setCtx_c0_z1 (s : State) (x : Context) : (s.setCtx .c0 x).z1 = s.z1 := rfl
@[simp] theorem setCtx_c0_transf (s : State) (x : Context) : (s.setCtx .c0 x).transf = s.transf := rfl
@[simp] theorem setCtx_c0_windowed (s : State) (x : Context) : (s.setCtx .c0 x).windowed = s.windowed := rfl
@[simp] theorem setCtx_c0_resetIn (s : State) (x : Context) : (s.setCtx .c0 x).resetIn = s.resetIn := rfl
@[simp] theorem setCtx_c0_hostIn (s : State) (x : Context) : (s.setCtx .c0 x).hostIn = s.hostIn := rfl
@[simp] theorem setCtx_c0_hostQueue (s : State) (x : Context) : (s.setCtx .c0 x).hostQueue = s.hostQueue := rfl
@[simp] theorem setCtx_c0_hostReads (s : State) (x : Context) : (s.setCtx .c0 x).hostReads = s.hostReads := rfl
@[simp] theorem setCtx_c0_freeCount (s : State) (x : Context) : (s.setCtx .c0 x).freeCount = s.freeCount := rfl

@[simp] theorem setCtx_c1_params (s : State) (x : Context) : (s.setCtx .c1 x).params = s.params := rfl
@[simp] theorem setCtx_c1_mem (s : State) (x : Context) : (s.setCtx .c1 x).mem = s.mem := rfl
@[simp] theorem setCtx_c1_cp (s : State) (x : Context) : (s.setCtx .c1 x).cp = s.cp := rfl
@[simp] theorem setCtx_c1_busy (s : State) (x : Context) : (s.setCtx .c1 x).busy = s.busy := rfl
@[simp] theorem setCtx_c1_done (s : State) (x : Context) : (s.setCtx .c1 x).done = s.done := rfl
@[simp] theorem setCtx_c1_fault (s : State) (x : Context) : (s.setCtx .c1 x).fault = s.fault := rfl
@[simp] theorem setCtx_c1_fbV (s : State) (x : Context) : (s.setCtx .c1 x).fbV = s.fbV := rfl
@[simp] theorem setCtx_c1_cuV (s : State) (x : Context) : (s.setCtx .c1 x).cuV = s.cuV := rfl
@[simp] theorem setCtx_c1_fcode (s : State) (x : Context) : (s.setCtx .c1 x).fcode = s.fcode := rfl
@[simp] theorem setCtx_c1_fcp (s : State) (x : Context) : (s.setCtx .c1 x).fcp = s.fcp := rfl
@[simp] theorem setCtx_c1_finfo (s : State) (x : Context) : (s.setCtx .c1 x).finfo = s.finfo := rfl
@[simp] theorem setCtx_c1_cfft0 (s : State) (x : Context) : (s.setCtx .c1 x).cfft0 = s.cfft0 := rfl
@[simp] theorem setCtx_c1_cfft1 (s : State) (x : Context) : (s.setCtx .c1 x).cfft1 = x := rfl
@[simp] theorem setCtx_c1_cfft2 (s : State) (x : Context) : (s.setCtx .c1 x).cfft2 = s.cfft2 := rfl
@[simp] theorem setCtx_c1_z0 (s : State) (x : Context) : (s.setCtx .c1 x).z0 = s.z0 := rfl
@[simp] theorem setCtx_c1_z1 (s : State) (x : Context) : (s.setCtx .c1 x).z1 = s.z1 := rfl
@[simp] theorem setCtx_c1_transf (s : State) (x : Context) : (s.setCtx .c1 x).transf = s.transf := rfl
@[simp] theorem setCtx_c1_windowed (s : State) (x : Context) : (s.setCtx .c1 x).windowed = s.windowed := rfl
@[simp] theorem setCtx_c1_resetIn (s : State) (x : Context) : (s.setCtx .c1 x).resetIn = s.resetIn := rfl
@[simp] theorem setCtx_c1_hostIn (s : State) (x : Context) : (s.setCtx .c1 x).hostIn = s.hostIn := rfl
@[simp] theorem setCtx_c1_hostQueue (s : State) (x : Context) : (s.setCtx .c1 x).hostQueue = s.hostQueue := rfl
@[simp] theorem setCtx_c1_hostReads (s : State) (x : Context) : (s.setCtx .c1 x).hostReads = s.hostReads := rfl
@[simp] theorem setCtx_c1_freeCount (s : State) (x : Context) : (s.setCtx .c1 x).freeCount = s.freeCount := rfl

@[simp] theorem setCtx_c2_params (s : State) (x : Context) : (s.setCtx .c2 x).params = s.params := rfl
@[simp] theorem setCtx_c2_mem (s : State) (x : Context) : (s.setCtx .c2 x).mem = s.mem := rfl
@[simp] theorem setCtx_c2_cp (s : State) (x : Context) : (s.setCtx .c2 x).cp = s.cp := rfl
@[simp] theorem setCtx_c2_busy (s : State) (x : Context) : (s.setCtx .c2 x).busy = s.busy := rfl
@[simp] theorem setCtx_c2_done (s : State) (x : Context) : (s.setCtx .c2 x).done = s.done := rfl
@[simp] theorem setCtx_c2_fault (s : State) (x : Context) : (s.setCtx .c2 x).fault = s.fault := rfl
@[simp] theorem setCtx_c2_fbV (s : State) (x : Context) : (s.setCtx .c2 x).fbV = s.fbV := rfl
@[simp] theorem setCtx_c2_cuV (s : State) (x : Context) : (s.setCtx .c2 x).cuV = s.cuV := rfl
@[simp] theorem setCtx_c2_fcode (s : State) (x : Context) : (s.setCtx .c2 x).fcode = s.fcode := rfl
@[simp] theorem setCtx_c2_fcp (s : State) (x : Context) : (s.setCtx .c2 x).fcp = s.fcp := rfl
@[simp] theorem setCtx_c2_finfo (s : State) (x : Context) : (s.setCtx .c2 x).finfo = s.finfo := rfl
@[simp] theorem setCtx_c2_cfft0 (s : State) (x : Context) : (s.setCtx .c2 x).cfft0 = s.cfft0 := rfl
@[simp] theorem setCtx_c2_cfft1 (s : State) (x : Context) : (s.setCtx .c2 x).cfft1 = s.cfft1 := rfl
@[simp] theorem setCtx_c2_cfft2 (s : State) (x : Context) : (s.setCtx .c2 x).cfft2 = x := rfl
@[simp] theorem setCtx_c2_z0 (s : State) (x : Context) : (s.setCtx .c2 x).z0 = s.z0 := rfl
@[simp] theorem setCtx_c2_z1 (s : State) (x : Context) : (s.setCtx .c2 x).z1 = s.z1 := rfl
@[simp] theorem setCtx_c2_transf (s : State) (x : Context) : (s.setCtx .c2 x).transf = s.transf := rfl
@[simp] theorem setCtx_c2_windowed (s : State) (x : Context) : (s.setCtx .c2 x).windowed = s.windowed := rfl
@[simp] theorem setCtx_c2_resetIn (s : State) (x : Context) : (s.setCtx .c2 x).resetIn = s.resetIn := rfl
@[simp] theorem setCtx_c2_hostIn (s : State) (x : Context) : (s.setCtx .c2 x).hostIn = s.hostIn := rfl
@[simp] theorem setCtx_c2_hostQueue (s : State) (x : Context) : (s.setCtx .c2 x).hostQueue = s.hostQueue := rfl
@[simp] theorem setCtx_c2_hostReads (s : State) (x : Context) : (s.setCtx .c2 x).hostReads = s.hostReads := rfl
@[simp] theorem setCtx_c2_freeCount (s : State) (x : Context) : (s.setCtx .c2 x).freeCount = s.freeCount := rfl

@[simp] theorem setCtx_params (s : State) (c : Ctx) (x : Context) : (s.setCtx c x).params = s.params := by cases c <;> rfl
@[simp] theorem setCtx_mem (s : State) (c : Ctx) (x : Context) : (s.setCtx c x).mem = s.mem := by cases c <;> rfl
@[simp] theorem setCtx_cp (s : State) (c : Ctx) (x : Context) : (s.setCtx c x).cp = s.cp := by cases c <;> rfl
@[simp] theorem setCtx_busy (s : State) (c : Ctx) (x : Context) : (s.setCtx c x).busy = s.busy := by cases c <;> rfl
@[simp] theorem setCtx_done (s : State) (c : Ctx) (x : Context) : (s.setCtx c x).done = s.done := by cases c <;> rfl
@[simp] theorem setCtx_fault (s : State) (c : Ctx) (x : Context) : (s.setCtx c x).fault = s.fault := by cases c <;> rfl
@[simp] theorem setCtx_fbV (s : State) (c : Ctx) (x : Context) : (s.setCtx c x).fbV = s.fbV := by cases c <;> rfl
@[simp] theorem setCtx_cuV (s : State) (c : Ctx) (x : Context) : (s.setCtx c x).cuV = s.cuV := by cases c <;> rfl
@[simp] theorem setCtx_fcode (s : State) (c : Ctx) (x : Context) : (s.setCtx c x).fcode = s.fcode := by cases c <;> rfl
@[simp] theorem setCtx_fcp (s : State) (c : Ctx) (x : Context) : (s.setCtx c x).fcp = s.fcp := by cases c <;> rfl
@[simp] theorem setCtx_finfo (s : State) (c : Ctx) (x : Context) : (s.setCtx c x).finfo = s.finfo := by cases c <;> rfl
@[simp] theorem setCtx_z0 (s : State) (c : Ctx) (x : Context) : (s.setCtx c x).z0 = s.z0 := by cases c <;> rfl
@[simp] theorem setCtx_z1 (s : State) (c : Ctx) (x : Context) : (s.setCtx c x).z1 = s.z1 := by cases c <;> rfl
@[simp] theorem setCtx_transf (s : State) (c : Ctx) (x : Context) : (s.setCtx c x).transf = s.transf := by cases c <;> rfl
@[simp] theorem setCtx_windowed (s : State) (c : Ctx) (x : Context) : (s.setCtx c x).windowed = s.windowed := by cases c <;> rfl
@[simp] theorem setCtx_resetIn (s : State) (c : Ctx) (x : Context) : (s.setCtx c x).resetIn = s.resetIn := by cases c <;> rfl
@[simp] theorem setCtx_hostIn (s : State) (c : Ctx) (x : Context) : (s.setCtx c x).hostIn = s.hostIn := by cases c <;> rfl
@[simp] theorem setCtx_hostQueue (s : State) (c : Ctx) (x : Context) : (s.setCtx c x).hostQueue = s.hostQueue := by cases c <;> rfl
@[simp] theorem setCtx_hostReads (s : State) (c : Ctx) (x : Context) : (s.setCtx c x).hostReads = s.hostReads := by cases c <;> rfl
@[simp] theorem setCtx_freeCount (s : State) (c : Ctx) (x : Context) : (s.setCtx c x).freeCount = s.freeCount := by cases c <;> rfl

@[simp] theorem setWork_params (s : State) (c : Ctx) (w : List Cplx) : (s.setWork c w).params = s.params := by cases c <;> rfl
@[simp] theorem setWork_mem (s : State) (c : Ctx) (w : List Cplx) : (s.setWork c w).mem = s.mem := by cases c <;> rfl
@[simp] theorem setWork_cp (s : State) (c : Ctx) (w : List Cplx) : (s.setWork c w).cp = s.cp := by cases c <;> rfl
@[simp] theorem setWork_busy (s : State) (c : Ctx) (w : List Cplx) : (s.setWork c w).busy = s.busy := by cases c <;> rfl
@[simp] theorem setWork_done (s : State) (c : Ctx) (w : List Cplx) : (s.setWork c w).done = s.done := by cases c <;> rfl
@[simp] theorem setWork_fault (s : State) (c : Ctx) (w : List Cplx) : (s.setWork c w).fault = s.fault := by cases c <;> rfl
@[simp] theorem setWork_fbV (s : State) (c : Ctx) (w : List Cplx) : (s.setWork c w).fbV = s.fbV := by cases c <;> rfl
@[simp] theorem setWork_cuV (s : State) (c : Ctx) (w : List Cplx) : (s.setWork c w).cuV = s.cuV := by cases c <;> rfl
@[simp] theorem setWork_fcode (s : State) (c : Ctx) (w : List Cplx) : (s.setWork c w).fcode = s.fcode := by cases c <;> rfl
@[simp] theorem setWork_fcp (s : State) (c : Ctx) (w : List Cplx) : (s.setWork c w).fcp = s.fcp := by cases c <;> rfl
@[simp] theorem setWork_finfo (s : State) (c : Ctx) (w : List Cplx) : (s.setWork c w).finfo = s.finfo := by cases c <;> rfl
@[simp] theorem setWork_z0 (s : State) (c : Ctx) (w : List Cplx) : (s.setWork c w).z0 = s.z0 := by cases c <;> rfl
@[simp] theorem setWork_z1 (s : State) (c : Ctx) (w : List Cplx) : (s.setWork c w).z1 = s.z1 := by cases c <;> rfl
@[simp] theorem setWork_transf (s : State) (c : Ctx) (w : List Cplx) : (s.setWork c w).transf = s.transf := by cases c <;> rfl
@[simp] theorem setWork_windowed (s : State) (c : Ctx) (w : List Cplx) : (s.setWork c w).windowed = s.windowed := by cases c <;> rfl
@[simp] theorem setWork_resetIn (s : State) (c : Ctx) (w : List Cplx) : (s.setWork c w).resetIn = s.resetIn := by cases c <;> rfl
@[simp] theorem setWork_hostIn (s : State) (c : Ctx) (w : List Cplx) : (s.setWork c w).hostIn = s.hostIn := by cases c <;> rfl
@[simp] theorem setWork_hostQueue (s : State) (c : Ctx) (w : List Cplx) : (s.setWork c w).hostQueue = s.hostQueue := by cases c <;> rfl
@[simp] theorem setWork_hostReads (s : State) (c : Ctx) (w : List Cplx) : (s.setWork c w).hostReads = s.hostReads := by cases c <;> rfl
@[simp] theorem setWork_freeCount (s : State) (c : Ctx) (w : List Cplx) : (s.setWork c w).freeCount = s.freeCount := by cases c <;> rfl

@[simp] theorem setZ_params (s : State) (m : Slot) (z : List Cplx) : (s.setZ m z).params = s.params := by cases m <;> rfl
@[simp] theorem setZ_mem (s : State) (m : Slot) (z : List Cplx) : (s.setZ m z).mem = s.mem := by cases m <;> rfl
@[simp] theorem setZ_cp (s : State) (m : Slot) (z : List Cplx) : (s.setZ m z).cp = s.cp := by cases m <;> rfl
@[simp] theorem setZ_busy (s : State) (m : Slot) (z : List Cplx) : (s.setZ m z).busy = s.busy := by cases m <;> rfl
@[simp] theorem setZ_done (s : State) (m : Slot) (z : List Cplx) : (s.setZ m z).done = s.done := by cases m <;> rfl
@[simp] theorem setZ_fault (s : State) (m : Slot) (z : List Cplx) : (s.setZ m z).fault = s.fault := by cases m <;> rfl
@[simp] theorem setZ_fbV (s : State) (m : Slot) (z : List Cplx) : (s.setZ m z).fbV = s.fbV := by cases m <;> rfl
@[simp] theorem setZ_cuV (s : State) (m : Slot) (z : List Cplx) : (s.setZ m z).cuV = s.cuV := by cases m <;> rfl
@[simp] theorem setZ_fcode (s : State) (m : Slot) (z : List Cplx) : (s.setZ m z).fcode = s.fcode := by cases m <;> rfl
@[simp] theorem setZ_fcp (s : State) (m : Slot) (z : List Cplx) : (s.setZ m z).fcp = s.fcp := by cases m <;> rfl
@[simp] theorem setZ_finfo (s : State) (m : Slot) (z : List Cplx) : (s.setZ m z).finfo = s.finfo := by cases m <;> rfl
@[simp] theorem setZ_cfft0 (s : State) (m : Slot) (z : List Cplx) : (s.setZ m z).cfft0 = s.cfft0 := by cases m <;> rfl
@[simp] theorem setZ_cfft1 (s : State) (m : Slot) (z : List Cplx) : (s.setZ m z).cfft1 = s.cfft1 := by cases m <;> rfl
@[simp] theorem setZ_cfft2 (s : State) (m : Slot) (z : List Cplx) : (s.setZ m z).cfft2 = s.cfft2 := by cases m <;> rfl
@[simp] theorem setZ_transf (s : State) (m : Slot) (z : List Cplx) : (s.setZ m z).transf = s.transf := by cases m <;> rfl
@[simp] theorem setZ_windowed (s : State) (m : Slot) (z : List Cplx) : (s.setZ m z).windowed = s.windowed := by cases m <;> rfl
@[simp] theorem setZ_resetIn (s : State) (m : Slot) (z : List Cplx) : (s.setZ m z).resetIn = s.resetIn := by cases m <;> rfl
@[simp] theorem setZ_hostIn (s : State) (m : Slot) (z : List Cplx) : (s.setZ m z).hostIn = s.hostIn := by cases m <;> rfl
@[simp] theorem setZ_hostQueue (s : State) (m : Slot) (z : List Cplx) : (s.setZ m z).hostQueue = s.hostQueue := by cases m <;> rfl
@[simp] theorem setZ_hostReads (s : State) (m : Slot) (z : List Cplx) : (s.setZ m z).hostReads = s.hostReads := by cases m <;> rfl
@[simp] theorem setZ_freeCount (s : State) (m : Slot) (z : List Cplx) : (s.setZ m z).freeCount = s.freeCount := by cases m <;> rfl

@[simp] theorem setScratch_params (s : State) (m : Slot) (r : MdctResult) : (s.setScratch m r).params = s.params := by cases m <;> rfl
@[simp] theorem setScratch_mem (s : State) (m : Slot) (r : MdctResult) : (s.setScratch m r).mem = s.mem := by cases m <;> rfl
@[simp] theorem setScratch_cp (s : State) (m : Slot) (r : MdctResult) : (s.setScratch m r).cp = s.cp := by cases m <;> rfl
@[simp] theorem setScratch_busy (s : State) (m : Slot) (r : MdctResult) : (s.setScratch m r).busy = s.busy := by cases m <;> rfl
@[simp] theorem setScratch_done (s : State) (m : Slot) (r : MdctResult) : (s.setScratch m r).done = s.done := by cases m <;> rfl
@[simp] theorem setScratch_fault (s : State) (m : Slot) (r : MdctResult) : (s.setScratch m r).fault = s.fault := by cases m <;> rfl
@[simp] theorem setScratch_fbV (s : State) (m : Slot) (r : MdctResult) : (s.setScratch m r).fbV = s.fbV := by cases m <;> rfl
@[simp] theorem setScratch_cuV (s : State) (m : Slot) (r : MdctResult) : (s.setScratch m r).cuV = s.cuV := by cases m <;> rfl
@[simp] theorem setScratch_fcode (s : State) (m : Slot) (r : MdctResult) : (s.setScratch m r).fcode = s.fcode := by cases m <;> rfl
@[simp] theorem setScratch_fcp (s : State) (m : Slot) (r : MdctResult) : (s.setScratch m r).fcp = s.fcp := by cases m <;> rfl
@[simp] theorem setScratch_finfo (s : State) (m : Slot) (r : MdctResult) : (s.setScratch m r).finfo = s.finfo := by cases m <;> rfl
@[simp] theorem setScratch_transf (s : State) (m : Slot) (r : MdctResult) : (s.setScratch m r).transf = s.transf := by cases m <;> rfl
@[simp] theorem setScratch_windowed (s : State) (m : Slot) (r : MdctResult) : (s.setScratch m r).windowed = s.windowed := by cases m <;> rfl
@[simp] theorem setScratch_resetIn (s : State) (m : Slot) (r : MdctResult) : (s.setScratch m r).resetIn = s.resetIn := by cases m <;> rfl
@[simp] theorem setScratch_hostIn (s : State) (m : Slot) (r : MdctResult) : (s.setScratch m r).hostIn = s.hostIn := by cases m <;> rfl
@[simp] theorem setScratch_hostQueue (s : State) (m : Slot) (r : MdctResult) : (s.setScratch m r).hostQueue = s.hostQueue := by cases m <;> rfl
@[simp] theorem setScratch_hostReads (s : State) (m : Slot) (r : MdctResult) : (s.setScratch m r).hostReads = s.hostReads := by cases m <;> rfl
@[simp] theorem setScratch_freeCount (s : State) (m : Slot) (r : MdctResult) : (s.setScratch m r).freeCount = s.freeCount := by cases m <;> rfl

/-! ### Contexts -/

@[simp] theorem ctx_c0 (s : State) : s.ctx .c0 = s.cfft0 := rfl
@[simp] theorem ctx_c1 (s : State) : s.ctx .c1 = s.cfft1 := rfl
@[simp] theorem ctx_c2 (s : State) : s.ctx .c2 = s.cfft2 := rfl

@[simp] theorem ctx_setCtx_self (s : State) (c : Ctx) (x : Context) : (s.setCtx c x).ctx c = x := by cases c <;> rfl

/-- Replacing one context leaves the others alone. -/
theorem ctx_setCtx_other (s : State) {c d : Ctx} (h : d ≠ c) (x : Context) : (s.setCtx c x).ctx d = s.ctx d := by
  cases c <;> cases d <;> first | rfl | exact absurd rfl h

@[simp] theorem storeWords_ctx (s : State) (a : Word) (ws : List Word) (c : Ctx) : (s.storeWords a ws).ctx c = s.ctx c := by cases c <;> rfl
@[simp] theorem storeComplex_ctx (s : State) (a : Word) (zs : List Cplx) (c : Ctx) : (s.storeComplex a zs).ctx c = s.ctx c := by cases c <;> rfl
@[simp] theorem setTransf_ctx (s : State) (t : List F32) (c : Ctx) : (s.setTransf t).ctx c = s.ctx c := by cases c <;> rfl
@[simp] theorem setWindowed_ctx (s : State) (w : List F32) (c : Ctx) : (s.setWindowed w).ctx c = s.ctx c := by cases c <;> rfl
@[simp] theorem advance_ctx (s : State) (c : Ctx) : (s.advance).ctx c = s.ctx c := by cases c <;> rfl
@[simp] theorem raise_ctx (s : State) (code : FaultCode) (v : Word) (c : Ctx) : (s.raise code v).ctx c = s.ctx c := by cases c <;> rfl
@[simp] theorem startRun_ctx (s : State) (c : Ctx) : (s.startRun).ctx c = s.ctx c := by cases c <;> rfl
@[simp] theorem haltRun_ctx (s : State) (c : Ctx) : (s.haltRun).ctx c = s.ctx c := by cases c <;> rfl
@[simp] theorem markFb_ctx (s : State) (c : Ctx) : (s.markFb).ctx c = s.ctx c := by cases c <;> rfl
@[simp] theorem markCu_ctx (s : State) (c : Ctx) : (s.markCu).ctx c = s.ctx c := by cases c <;> rfl
@[simp] theorem answer_ctx (s : State) (ap : Aperture) (off : Nat) (v : Word) (c : Ctx) : (s.answer ap off v).ctx c = s.ctx c := by cases c <;> rfl
@[simp] theorem sampleInputs_ctx (s : State) (c : Ctx) : (s.sampleInputs).ctx c = s.ctx c := by cases c <;> rfl
@[simp] theorem setZ_ctx (s : State) (m : Slot) (z : List Cplx) (c : Ctx) : (s.setZ m z).ctx c = s.ctx c := by cases m <;> cases c <;> rfl

/-- A work buffer replaced: the size, the factors and the twiddle table of every context are as before (R41). -/
theorem setWork_construction (s : State) (c d : Ctx) (w : List Cplx) :
    ((s.setWork c w).ctx d).N = (s.ctx d).N ∧ ((s.setWork c w).ctx d).nf = (s.ctx d).nf ∧
      ((s.setWork c w).ctx d).fac = (s.ctx d).fac ∧ ((s.setWork c w).ctx d).tw = (s.ctx d).tw := by
  cases c <;> cases d <;> exact ⟨rfl, rfl, rfl, rfl⟩

/-- The scratch of a slot replaced: the size, the factors and the twiddle table of every context are as before (R41, R57). -/
theorem setScratch_construction (s : State) (m : Slot) (r : MdctResult) (d : Ctx) :
    ((s.setScratch m r).ctx d).N = (s.ctx d).N ∧ ((s.setScratch m r).ctx d).nf = (s.ctx d).nf ∧
      ((s.setScratch m r).ctx d).fac = (s.ctx d).fac ∧ ((s.setScratch m r).ctx d).tw = (s.ctx d).tw := by
  cases m <;> cases d <;> exact ⟨rfl, rfl, rfl, rfl⟩

end Sys2Proof.Laws
end

