-- ==== Sys2Proof/Laws/Commands.lean ====
section
/-! SUPPORT. What `perform`, the check lists and the fetch can do, each said once, and the effect each command hands to `perform`. -/

namespace Sys2Proof.Laws

open Sys2Proof Sys2Proof.Machine

/-! ### The first failing check -/

theorem firstFailure_eq_none {cs : List Check} : firstFailure cs = none ↔ ∀ c ∈ cs, c.fails = false := by
  induction cs with
  | nil => simp [firstFailure]
  | cons c cs ih => cases h : c.fails <;> simp [firstFailure, h, ih]

theorem firstFailure_append (cs ds : List Check) : firstFailure (cs ++ ds) = (firstFailure cs).or (firstFailure ds) := by
  induction cs with
  | nil => simp [firstFailure]
  | cons c cs ih => cases h : c.fails <;> simp [firstFailure, h, ih]

/-- A failure reported is that of a check that fails. -/
theorem firstFailure_mem {cs : List Check} {e : FaultCode × Word} (h : firstFailure cs = some e) :
    ∃ c ∈ cs, c.fails = true ∧ (c.code, c.info) = e := by
  induction cs with
  | nil => simp [firstFailure] at h
  | cons c cs ih =>
    simp only [firstFailure] at h
    split at h
    · next hc => exact ⟨c, by simp, hc, by simpa using h⟩
    · obtain ⟨d, hd, h2⟩ := ih h
      exact ⟨d, by simp [hd], h2⟩

/-- What `perform` answers (R251): the first failing check is taken as a fault, or the effect and `CP + 4`. It always answers a next
state. -/
theorem perform_cases (s : State) (i : Instr) (f : State → State) :
    (∃ code info, firstFailure (checks s i) = some (code, info) ∧ s.perform i f = .next (s.raise code info)) ∨
      (firstFailure (checks s i) = none ∧ s.perform i f = .next (f s).advance) := by
  unfold State.perform
  cases h : firstFailure (checks s i) with
  | none => exact .inr ⟨rfl, rfl⟩
  | some e => exact .inl ⟨e.1, e.2, rfl, rfl⟩

theorem perform_of_pass {s : State} {i : Instr} {f : State → State} (h : firstFailure (checks s i) = none) :
    s.perform i f = .next (f s).advance := by
  unfold State.perform; rw [h]

theorem perform_of_fail {s : State} {i : Instr} {f : State → State} {code : FaultCode} {info : Word}
    (h : firstFailure (checks s i) = some (code, info)) : s.perform i f = .next (s.raise code info) := by
  unfold State.perform; rw [h]

/-! ### Regions that passed their checks -/

/-- All checks pass exactly when the command's own checks pass, every region lies inside `DMEM` and no two intersect (R114). -/
theorem checks_pass {s : State} {i : Instr} :
    firstFailure (checks s i) = none ↔
      firstFailure (commandChecks s i) = none ∧ firstFailure (rangeChecks s.params (regions s i)) = none ∧
        firstFailure (overlapChecks (regions s i)) = none := by
  rw [checks, firstFailure_append, firstFailure_append]
  cases firstFailure (commandChecks s i) <;> cases firstFailure (rangeChecks s.params (regions s i)) <;> simp

theorem rangeChecks_pass {p : Params} {rs : List Region} :
    firstFailure (rangeChecks p rs) = none ↔ ∀ r ∈ rs, r.base.toNat + r.len ≤ p.dmemWords := by
  simp [firstFailure_eq_none, rangeChecks]

theorem overlapChecks_pass {rs : List Region} :
    firstFailure (overlapChecks rs) = none ↔ rs.Pairwise (fun p q => p.intersects q = false) := by
  induction rs with
  | nil => simp [overlapChecks, firstFailure]
  | cons r rs ih =>
    rw [overlapChecks, firstFailure_append, Option.or_eq_none_iff, ih, List.pairwise_cons]
    simp [firstFailure_eq_none]

/-- Two regions do not intersect exactly when one ends before the other begins (R113). -/
theorem intersects_eq_false {p q : Region} :
    p.intersects q = false ↔ q.base.toNat + q.len ≤ p.base.toNat ∨ p.base.toNat + p.len ≤ q.base.toNat := by
  simp only [Region.intersects, Bool.and_eq_false_iff, decide_eq_false_iff_not]; omega

/-! ### The effects -/

/-- The effect of each command, as its meaning hands it to `perform`. -/
def effectOf : Instr → State → State
  | .nop => id
  | .halt => State.haltRun
  | .cfftInit n => fun s => (s.setCtx .c2 ((s.ctx .c2).build n.toNat)).markCu
  | .fbInit _ => fun s => ((s.mdctBuild .m0).mdctBuild .m1).markFb
  | .cfftFwd c a => cfftEffect c a .neg
  | .cfftBwd c a => cfftEffect c a .pos
  | .imdct m src dst => imdctEffect m src dst
  | .mdct m src dst => mdctEffect m src dst
  | .ifb ws sh shp freq time ovl => ifbEffect ws sh shp freq time ovl
  | .ffb _ sh shp inp out => ffbEffect sh shp inp out
  | .cmul src dst => fun s => s.storeWords dst (cmulWords s.mem src.toNat)
  | .pass2p c iw ido l1 src dst => passEffect .r2 .pos c iw ido l1 src dst
  | .pass2n c iw ido l1 src dst => passEffect .r2 .neg c iw ido l1 src dst
  | .pass4p c iw ido l1 src dst => passEffect .r4 .pos c iw ido l1 src dst
  | .pass4n c iw ido l1 src dst => passEffect .r4 .neg c iw ido l1 src dst
  | .pass3 c sg iw ido l1 src dst => passEffect .r3 sg c iw ido l1 src dst
  | .pass5 c sg iw ido l1 src dst => passEffect .r5 sg c iw ido l1 src dst

/-- Every command is `perform` of its effect (R251). -/
theorem exec_eq (i : Instr) (s : State) : exec i s = s.perform i (effectOf i) := by cases i <;> rfl

/-- What `exec` answers, for every command: a fault taken, or the effect and `CP + 4`. -/
theorem exec_cases (i : Instr) (s : State) :
    (∃ code info, firstFailure (checks s i) = some (code, info) ∧ exec i s = .next (s.raise code info)) ∨
      (firstFailure (checks s i) = none ∧ exec i s = .next (effectOf i s).advance) := by
  rw [exec_eq]; exact perform_cases s i _

/-! ### Fetch -/

/-- What a fetch that succeeds says (R110, R251). -/
theorem fetch_ok {s : State} {i : Instr} (h : s.fetch = .ok i) :
    s.cp.toNat + 3 < s.params.dmemWords ∧ decodeDescriptor (s.descriptorAt s.cp.toNat) = .ok i := by
  unfold State.fetch at h
  split at h
  · cases h
  · next hr =>
    refine ⟨by omega, ?_⟩
    split at h
    · cases h
    · next j hj => cases h; exact hj

/-- The two faults of a fetch (R110, R302). -/
theorem fetch_error {s : State} {e : FaultCode × Word} (h : s.fetch = .error e) :
    (s.params.dmemWords ≤ s.cp.toNat + 3 ∧ e = (.addr, s.cp)) ∨
      (s.cp.toNat + 3 < s.params.dmemWords ∧ (∃ r, decodeDescriptor (s.descriptorAt s.cp.toNat) = .error r) ∧
        e = (.illegal, (s.descriptorAt s.cp.toNat).w0)) := by
  unfold State.fetch at h
  split at h
  · next hr => cases h; exact .inl ⟨hr, rfl⟩
  · next hr =>
    split at h
    · next r hd => cases h; exact .inr ⟨by omega, ⟨r, hd⟩, rfl⟩
    · cases h

/-! ### The numbers of the fault codes -/

theorem faultNumber_range (c : FaultCode) : 1 ≤ (faultNumber c).toNat ∧ (faultNumber c).toNat ≤ 9 := by
  cases c <;> decide

end Sys2Proof.Laws
end

