-- ==== Sys2Proof/Laws/Encoding.lean ====
section
/-! SUPPORT. The fields of an encoded `W0` (R91): each field that `packW0` puts in reads back, and the reserved bits read 0. -/

namespace Sys2Proof.Laws

open Sys2Proof

/-- `W0` as a number, from its fields (R91). -/
theorem packW0_toNat (opc : BitVec 8) (sel : BitVec 2) (b21 b20 : BitVec 1) (iw : BitVec 16) :
    (packW0 opc sel b21 b20 iw).toNat =
      opc.toNat * 2 ^ 24 + sel.toNat * 2 ^ 22 + b21.toNat * 2 ^ 21 + b20.toNat * 2 ^ 20 + iw.toNat := by
  have := opc.isLt; have := sel.isLt; have := b21.isLt; have := b20.isLt; have := iw.isLt
  simp only [packW0, BitVec.toNat_append]
  rw [← Nat.shiftLeft_add_eq_or_of_lt (by omega), ← Nat.shiftLeft_add_eq_or_of_lt (by omega),
    ← Nat.shiftLeft_add_eq_or_of_lt (by omega), ← Nat.shiftLeft_add_eq_or_of_lt (by simp; omega),
    ← Nat.shiftLeft_add_eq_or_of_lt (by omega)]
  simp only [Nat.shiftLeft_eq, BitVec.ofNat_eq_ofNat, BitVec.toNat_ofNat, Nat.zero_mod]
  omega

theorem opc_packW0 (opc : BitVec 8) (sel : BitVec 2) (b21 b20 : BitVec 1) (iw : BitVec 16) (w1 w2 w3 : Word) :
    (Descriptor.mk (packW0 opc sel b21 b20 iw) w1 w2 w3).opc = opc := by
  have := sel.isLt; have := b21.isLt; have := b20.isLt; have := iw.isLt; have := opc.isLt
  apply BitVec.eq_of_toNat_eq
  simp only [Descriptor.opc, BitVec.extractLsb, BitVec.extractLsb'_toNat, packW0_toNat, Nat.shiftRight_eq_div_pow]; omega

theorem sel_packW0 (opc : BitVec 8) (sel : BitVec 2) (b21 b20 : BitVec 1) (iw : BitVec 16) (w1 w2 w3 : Word) :
    (Descriptor.mk (packW0 opc sel b21 b20 iw) w1 w2 w3).sel = sel := by
  have := sel.isLt; have := b21.isLt; have := b20.isLt; have := iw.isLt; have := opc.isLt
  apply BitVec.eq_of_toNat_eq
  simp only [Descriptor.sel, BitVec.extractLsb, BitVec.extractLsb'_toNat, packW0_toNat, Nat.shiftRight_eq_div_pow]; omega

theorem b21_packW0 (opc : BitVec 8) (sel : BitVec 2) (b21 b20 : BitVec 1) (iw : BitVec 16) (w1 w2 w3 : Word) :
    (Descriptor.mk (packW0 opc sel b21 b20 iw) w1 w2 w3).b21 = b21 := by
  have := sel.isLt; have := b21.isLt; have := b20.isLt; have := iw.isLt; have := opc.isLt
  apply BitVec.eq_of_toNat_eq
  simp only [Descriptor.b21, BitVec.extractLsb, BitVec.extractLsb'_toNat, packW0_toNat, Nat.shiftRight_eq_div_pow]; omega

theorem b20_packW0 (opc : BitVec 8) (sel : BitVec 2) (b21 b20 : BitVec 1) (iw : BitVec 16) (w1 w2 w3 : Word) :
    (Descriptor.mk (packW0 opc sel b21 b20 iw) w1 w2 w3).b20 = b20 := by
  have := sel.isLt; have := b21.isLt; have := b20.isLt; have := iw.isLt; have := opc.isLt
  apply BitVec.eq_of_toNat_eq
  simp only [Descriptor.b20, BitVec.extractLsb, BitVec.extractLsb'_toNat, packW0_toNat, Nat.shiftRight_eq_div_pow]; omega

theorem reserved_packW0 (opc : BitVec 8) (sel : BitVec 2) (b21 b20 : BitVec 1) (iw : BitVec 16) (w1 w2 w3 : Word) :
    (Descriptor.mk (packW0 opc sel b21 b20 iw) w1 w2 w3).reserved = 0 := by
  have := sel.isLt; have := b21.isLt; have := b20.isLt; have := iw.isLt; have := opc.isLt
  apply BitVec.eq_of_toNat_eq
  simp only [Descriptor.reserved, BitVec.extractLsb, BitVec.extractLsb'_toNat, packW0_toNat, Nat.shiftRight_eq_div_pow,
    BitVec.ofNat_eq_ofNat, BitVec.toNat_ofNat, Nat.zero_mod]
  omega

theorem iw_packW0 (opc : BitVec 8) (sel : BitVec 2) (b21 b20 : BitVec 1) (iw : BitVec 16) (w1 w2 w3 : Word) :
    (Descriptor.mk (packW0 opc sel b21 b20 iw) w1 w2 w3).iw = iw := by
  have := sel.isLt; have := b21.isLt; have := b20.isLt; have := iw.isLt; have := opc.isLt
  apply BitVec.eq_of_toNat_eq
  simp only [Descriptor.iw, BitVec.extractLsb, BitVec.extractLsb'_toNat, packW0_toNat, Nat.shiftRight_eq_div_pow]; omega

/-- When a descriptor with an encoded `W0` is legal (R100), in terms of its fields. -/
theorem legal_packW0 (opc : BitVec 8) (sel : BitVec 2) (b21 b20 : BitVec 1) (iw : BitVec 16) (w1 w2 w3 : Word) :
    (Descriptor.mk (packW0 opc sel b21 b20 iw) w1 w2 w3).legal =
      (knownOpcodes.contains opc &&
        ((sel == 0 || !([0x00, 0x01, 0x12, 0x40].contains opc)) && (b21 == 0 || [0x30, 0x31, 0x46, 0x47].contains opc) &&
          (b20 == 0 || [0x30, 0x31].contains opc) && (iw == 0 || passOpcodes.contains opc) &&
          (w1 == 0 || !([0x00, 0x01].contains opc)) &&
          (w2 == 0 || !([0x00, 0x01, 0x10, 0x12, 0x20, 0x21].contains opc)) &&
          (w3 == 0 || (0x30 :: passOpcodes).contains opc)) &&
        (!((0x20 :: 0x21 :: passOpcodes).contains opc) || sel != 3) &&
        (!([0x22, 0x23].contains opc) || decide (sel.toNat < 2)) && (opc != 0x10 || sel == 2)) := by
  simp only [Descriptor.legal, Descriptor.opcodeKnown, Descriptor.reservedZero, Descriptor.unusedZero, Descriptor.contextLegal,
    Descriptor.slotLegal, Descriptor.userContext, opc_packW0, sel_packW0, b21_packW0, b20_packW0, reserved_packW0, iw_packW0,
    beq_self_eq_true, Bool.and_true]

end Sys2Proof.Laws
end

