-- ==== Sys2Proof/Laws/PerInstr.lean ====
section
/-! SUPPORT. Statements made per command: the encoding of every command, with every operand, is a legal descriptor (R92, R100). -/

namespace Sys2Proof.Laws

open Sys2Proof

/-- The encoding of the command is legal (R100). -/
def EncodedDescriptorLegal.Statement (i : Instr) : Prop := (encode i).legal = true

namespace EncodedDescriptorLegal

theorem nop : Statement .nop := by unfold Statement; decide
theorem halt : Statement .halt := by unfold Statement; decide
theorem cfftInit (n : Word) : Statement (.cfftInit n) := by
  simp only [Statement, encode, legal_packW0]; simp [knownOpcodes, passOpcodes]
theorem fbInit (frameLength : Word) : Statement (.fbInit frameLength) := by
  simp only [Statement, encode, legal_packW0]; simp [knownOpcodes, passOpcodes]
theorem cfftFwd (c : Ctx) (a : Word) : Statement (.cfftFwd c a) := by
  simp only [Statement, encode, legal_packW0]; cases c <;> simp [knownOpcodes, passOpcodes, Ctx.sel]
theorem cfftBwd (c : Ctx) (a : Word) : Statement (.cfftBwd c a) := by
  simp only [Statement, encode, legal_packW0]; cases c <;> simp [knownOpcodes, passOpcodes, Ctx.sel]
theorem imdct (m : Slot) (src dst : Word) : Statement (.imdct m src dst) := by
  simp only [Statement, encode, legal_packW0]; cases m <;> simp [knownOpcodes, passOpcodes, Slot.sel]
theorem mdct (m : Slot) (src dst : Word) : Statement (.mdct m src dst) := by
  simp only [Statement, encode, legal_packW0]; cases m <;> simp [knownOpcodes, passOpcodes, Slot.sel]
theorem ifb (ws : WindowSequence) (shape shapePrev : Shape) (freq time ovl : Word) :
    Statement (.ifb ws shape shapePrev freq time ovl) := by
  simp only [Statement, encode, legal_packW0]; simp [knownOpcodes, passOpcodes]
theorem ffb (ws : WindowSequence) (shape shapePrev : Shape) (inp out : Word) : Statement (.ffb ws shape shapePrev inp out) := by
  simp only [Statement, encode, legal_packW0]; simp [knownOpcodes, passOpcodes]
theorem cmul (src dst : Word) : Statement (.cmul src dst) := by
  simp only [Statement, encode, legal_packW0]; simp [knownOpcodes, passOpcodes]
theorem pass2p (c : Ctx) (iw ido l1 : BitVec 16) (src dst : Word) : Statement (.pass2p c iw ido l1 src dst) := by
  simp only [Statement, encode, encodePass, legal_packW0]; cases c <;> simp [knownOpcodes, passOpcodes, Ctx.sel]
theorem pass2n (c : Ctx) (iw ido l1 : BitVec 16) (src dst : Word) : Statement (.pass2n c iw ido l1 src dst) := by
  simp only [Statement, encode, encodePass, legal_packW0]; cases c <;> simp [knownOpcodes, passOpcodes, Ctx.sel]
theorem pass4p (c : Ctx) (iw ido l1 : BitVec 16) (src dst : Word) : Statement (.pass4p c iw ido l1 src dst) := by
  simp only [Statement, encode, encodePass, legal_packW0]; cases c <;> simp [knownOpcodes, passOpcodes, Ctx.sel]
theorem pass4n (c : Ctx) (iw ido l1 : BitVec 16) (src dst : Word) : Statement (.pass4n c iw ido l1 src dst) := by
  simp only [Statement, encode, encodePass, legal_packW0]; cases c <;> simp [knownOpcodes, passOpcodes, Ctx.sel]
theorem pass3 (c : Ctx) (isign : Sign) (iw ido l1 : BitVec 16) (src dst : Word) : Statement (.pass3 c isign iw ido l1 src dst) := by
  simp only [Statement, encode, encodePass, legal_packW0]; cases c <;> simp [knownOpcodes, passOpcodes, Ctx.sel]
theorem pass5 (c : Ctx) (isign : Sign) (iw ido l1 : BitVec 16) (src dst : Word) : Statement (.pass5 c isign iw ido l1 src dst) := by
  simp only [Statement, encode, encodePass, legal_packW0]; cases c <;> simp [knownOpcodes, passOpcodes, Ctx.sel]

end EncodedDescriptorLegal

end Sys2Proof.Laws
end

