-- ==== Sys2Proof/Laws/Run.lean ====
section
/-! SUPPORT. What a step is in each of its three turns, and what an access of the host can do. -/

namespace Sys2Proof.Laws

open Sys2Proof.Machine

/-- The reset input is the whole step. -/
theorem step_reset {s : State} (h : s.resetIn.headD false = true) : step s = .next s.sampleInputs.resetInput := by
  unfold step State.turn State.resetAsserted
  rw [h]; rfl

/-- A step of a run. -/
theorem step_busy {s : State} (h : s.resetIn.headD false = false) (hb : s.busy = true) :
    step s = s.sampleInputs.sequencerStep := by
  unfold step State.turn State.resetAsserted
  rw [h, hb]; rfl

/-- A step while no run is in progress. -/
theorem step_idle {s : State} (h : s.resetIn.headD false = false) (hb : s.busy = false) : step s = s.sampleInputs.hostStep := by
  unfold step State.turn State.resetAsserted
  rw [h, hb]; rfl

/-- While no run is in progress the reset input changes no word of `DMEM`. -/
theorem resetInput_idle {s : State} (hb : s.busy = false) : s.resetInput = s.resetKeepingDmem := by
  unfold State.resetInput
  rw [hb]; rfl

/-- All a supported access to `DMEM` can do: it stops beyond `DMEM`, else it reads the word or writes it. -/
theorem performMemory_cases (s : State) (a : Nat) (v : Option Word) :
    (s.params.dmemWords ≤ a ∧ s.performMemory a v = .fault (.hostOutsideDmem a)) ∨
    (a < s.params.dmemWords ∧ v = none ∧ s.performMemory a v = .next (s.answer .memory (4 * a) (s.mem.readWord a))) ∨
    (∃ w, a < s.params.dmemWords ∧ v = some w ∧ s.performMemory a v = .next { s with mem := s.mem.writeWords a [w] }) := by
  unfold State.performMemory
  by_cases h : s.params.dmemWords ≤ a
  · exact .inl ⟨h, if_pos h⟩
  · rw [if_neg h]
    cases v with
    | none => exact .inr (.inl ⟨by omega, rfl, rfl⟩)
    | some w => exact .inr (.inr ⟨w, by omega, rfl, rfl⟩)

/-- A read that is not one aligned word is refused, in either aperture; any other is performed. -/
theorem performAccess_read (s : State) (ap : Aperture) (off size : Nat) :
    s.performAccess (.read ap off size) =
      if size ≠ 4 ∨ off % 4 ≠ 0 then .refused (.hostAccessUnsupported off size)
      else match ap with
        | .registers => .next (s.answer .registers off (s.readRegister (off / 4)))
        | .memory => s.performMemory (off / 4) none := rfl

/-- A write that is not one aligned word is refused, in either aperture; any other is performed. -/
theorem performAccess_write (s : State) (ap : Aperture) (off size : Nat) (v : Word) :
    s.performAccess (.write ap off size v) =
      if size ≠ 4 ∨ off % 4 ≠ 0 then .refused (.hostAccessUnsupported off size)
      else match ap with
        | .registers => .next (s.writeRegister (off / 4) v)
        | .memory => s.performMemory (off / 4) (some v) := rfl

/-- While no run is in progress taking the inputs completes no access. -/
theorem sampleInputs_of_idle {s : State} (hb : s.busy = false) :
    s.sampleInputs = { s with resetIn := s.resetIn.tail, hostIn := s.hostIn.tail, hostQueue := s.outstanding } := by
  unfold State.sampleInputs
  rw [hb]; rfl

/-- During a run taking the inputs completes every read of `STATUS` and leaves the rest held. -/
theorem sampleInputs_of_run {s : State} (hb : s.busy = true) :
    s.sampleInputs = { s with
      resetIn := s.resetIn.tail, hostIn := s.hostIn.tail, hostQueue := s.outstanding.filter (· ≠ .statusPoll)
      hostReads := List.replicate (s.outstanding.count .statusPoll) ⟨.registers, 8, 1⟩ ++ s.hostReads } := by
  unfold State.sampleInputs
  rw [hb]; rfl

/-- A step while no run is in progress and an access of the host is outstanding: the oldest is performed. -/
theorem step_access {s : State} {a : HostAccess} {rest : List HostAccess} (h : s.resetIn.headD false = false) (hb : s.busy = false)
    (hq : s.outstanding = a :: rest) :
    step s = State.performAccess { s with hostQueue := rest, hostIn := s.hostIn.tail, resetIn := s.resetIn.tail } a := by
  rw [step_idle h hb, sampleInputs_of_idle hb, hq]; rfl

end Sys2Proof.Laws
end

