-- ==== Sys2Proof/Tests/Slice0.lean ====
section
/-! SUPPORT. Tests: a descriptor refused by each check of legality, a written-out word for every command, small steps with values
from the spec's rules and vectors, and for every statement with hypotheses a state that meets them. -/

namespace Sys2Proof.Tests

open Sys2Proof Sys2Proof.Machine

/-! ### Well-formedness: one descriptor refused by each check (R100; the rows of `95_test_vectors.md` section 8) -/

theorem test_refused_opcode : (⟨0x41000000, 0, 0, 0⟩ : Descriptor).opcodeKnown = false := by decide
theorem test_refused_reserved : (⟨0x30010000, 0x1000, 0x2000, 0x3000⟩ : Descriptor).reservedZero = false := by decide
theorem test_refused_unused_word : (⟨0x40000000, 0x100, 0x200, 5⟩ : Descriptor).unusedZero = false := by decide
theorem test_refused_unused_bit : (⟨0x46100000, 0x100, 0x200, 0x00010001⟩ : Descriptor).unusedZero = false := by decide
theorem test_refused_context : (⟨0x20C00000, 0x100, 0, 0⟩ : Descriptor).contextLegal = false := by decide
theorem test_refused_slot : (⟨0x22800000, 0x100, 0x400, 0⟩ : Descriptor).slotLegal = false := by decide
theorem test_refused_user_context : (⟨0x10000000, 8, 0, 0⟩ : Descriptor).userContext = false := by decide

/-- Each refused descriptor is also refused by the decoder, for the reason it names. -/
theorem test_refused_by_decoder :
    decodeDescriptor ⟨0x41000000, 0, 0, 0⟩ = .error .unknownOpcode ∧
    decodeDescriptor ⟨0x30010000, 0x1000, 0x2000, 0x3000⟩ = .error .fixedBits ∧
    decodeDescriptor ⟨0x40000000, 0x100, 0x200, 5⟩ = .error .operandWord ∧
    decodeDescriptor ⟨0x20C00000, 0x100, 0, 0⟩ = .error .selector ∧
    decodeDescriptor ⟨0x22800000, 0x100, 0x400, 0⟩ = .error .fixedBits ∧
    decodeDescriptor ⟨0x10000000, 8, 0, 0⟩ = .error .fixedBits := by decide

/-! ### Decoding: every constructor's word, written out from R91, R92 and R98 -/

theorem test_decode_nop : decodeDescriptor ⟨0x00000000, 0, 0, 0⟩ = .ok .nop := by decide
theorem test_decode_halt : decodeDescriptor ⟨0x01000000, 0, 0, 0⟩ = .ok .halt := by decide
theorem test_decode_cfftInit : decodeDescriptor ⟨0x10800000, 0x1E6, 0, 0⟩ = .ok (.cfftInit 486) := by decide
theorem test_decode_fbInit : decodeDescriptor ⟨0x12000000, 0x400, 0, 0⟩ = .ok (.fbInit 1024) := by decide
theorem test_decode_cfftFwd : decodeDescriptor ⟨0x20800000, 0x100, 0, 0⟩ = .ok (.cfftFwd .c2 0x100) := by decide
theorem test_decode_cfftBwd : decodeDescriptor ⟨0x21400000, 0xFC01, 0, 0⟩ = .ok (.cfftBwd .c1 0xFC01) := by decide
theorem test_decode_imdct : decodeDescriptor ⟨0x22400000, 0x1000, 0x2000, 0⟩ = .ok (.imdct .m1 0x1000 0x2000) := by decide
theorem test_decode_mdct : decodeDescriptor ⟨0x23000000, 0x1000, 0x2000, 0⟩ = .ok (.mdct .m0 0x1000 0x2000) := by decide
theorem test_decode_ifb :
    decodeDescriptor ⟨0x30E00000, 0x1000, 0x2000, 0x3000⟩ = .ok (.ifb .longStop .kbd .sine 0x1000 0x2000 0x3000) := by decide
theorem test_decode_ffb : decodeDescriptor ⟨0x31100000, 0x1000, 0x2000, 0⟩ = .ok (.ffb .onlyLong .sine .kbd 0x1000 0x2000) := by
  decide
theorem test_decode_cmul : decodeDescriptor ⟨0x40000000, 0x100, 0x200, 0⟩ = .ok (.cmul 0x100 0x200) := by decide
theorem test_decode_pass2p :
    decodeDescriptor ⟨0x42800003, 0x100, 0x200, 0x00040001⟩ = .ok (.pass2p .c2 3 4 1 0x100 0x200) := by decide
theorem test_decode_pass2n :
    decodeDescriptor ⟨0x43000000, 0x100, 0x200, 0x00040001⟩ = .ok (.pass2n .c0 0 4 1 0x100 0x200) := by decide
theorem test_decode_pass4p :
    decodeDescriptor ⟨0x44400004, 0x100, 0x200, 0x00010002⟩ = .ok (.pass4p .c1 4 1 2 0x100 0x200) := by decide
theorem test_decode_pass4n :
    decodeDescriptor ⟨0x4580000C, 0x100, 0x200, 0x00010004⟩ = .ok (.pass4n .c2 12 1 4 0x100 0x200) := by decide
theorem test_decode_pass3 :
    decodeDescriptor ⟨0x46A00006, 0x100, 0x200, 0x00010003⟩ = .ok (.pass3 .c2 .neg 6 1 3 0x100 0x200) := by decide
theorem test_decode_pass5 :
    decodeDescriptor ⟨0x47800005, 0x100, 0x200, 0x00010002⟩ = .ok (.pass5 .c2 .pos 5 1 2 0x100 0x200) := by decide

/-- The bit numbering of the opcode table: `W1` is bits 63:32 (R90, R120). -/
theorem test_decodeTableWord : decodeTableWord 64 0x0000040012000000 = some (.fbInit 1024) := by decide

/-! ### States -/

/-- The state of a step that answers one. -/
def nextOf (o : Host.Outcome State Fault Refusal) : Option State :=
  match o with
  | .next t => some t
  | _ => none

/-- Reset, with words stored at an address. -/
def holding (a : Word) (ws : List Word) : State := State.reset.storeWords a ws

/-- The filter bank constructed (R220). -/
def withFb (s : State) : State := ((s.mdctBuild .m0).mdctBuild .m1).markFb

/-- The user context constructed for a size (R150). -/
def withUser (N : Nat) (s : State) : State := (s.setCtx .c2 (Context.unbuilt.build N)).markCu

/-- The words a command leaves at an address. -/
def left (i : Instr) (s : State) (a : Word) (n : Nat) : Option (List Word) :=
  (nextOf (exec i s)).map fun t => t.mem.readWords a.toNat n

/-- The fault a command takes: `FCODE`, `FINFO`. -/
def faultOf (i : Instr) (s : State) : Option (BitVec 4 × Word) :=
  (nextOf (exec i s)).map fun t => (t.fcode, t.finfo)

/-- `withFetchWord` makes the next step run the word: `HALT` ends the run. -/
theorem test_withFetchWord : (nextOf (step (State.reset.withFetchWord 128 0x01000000))).map (fun t => (t.cp, t.busy, t.done)) =
    some (4, false, true) := by decide +kernel

/-! ### Commands, at most two small steps each -/

theorem test_nop : (nextOf (exec .nop { State.reset with cp := 8, busy := true })).map (fun t => (t.cp, t.busy)) = some (12, true) := by
  decide
theorem test_halt : (nextOf (exec .halt { State.reset with cp := 8, busy := true })).map (fun t => (t.cp, t.busy, t.done)) =
    some (12, false, true) := by decide

/-- R152, `N = 6`. -/
theorem test_cfftInit : (nextOf (exec (.cfftInit 6) State.reset)).map (fun t => (t.cfft2.fac, t.cfft2.tw, t.cuV)) =
    some ([.r2, .r3], [⟨0x3F800000, 0⟩, ⟨0x3F000000, 0x3F5DB3D7⟩, ⟨0xBF000000, 0x3F5DB3D7⟩, ⟨0x3F800000, 0⟩, ⟨0x3F800000, 0⟩],
      true) := by decide +kernel

/-- `95_test_vectors.md` section 8. -/
theorem test_cfftInit_fault : faultOf (.cfftInit 50) State.reset = some (7, 0x32) := by decide +kernel

/-- R143, R220. -/
theorem test_fbInit : (nextOf (exec (.fbInit 1024) State.reset)).map (fun t => (t.cfft0.fac, t.cfft1.fac, t.fbV)) =
    some ([.r4, .r4, .r4], [.r2, .r4, .r4, .r4, .r4], true) := by decide +kernel

/-- `95_test_vectors.md` section 8: the short size is tested first. -/
theorem test_fbInit_fault : faultOf (.fbInit 960) State.reset = some (6, 0xF0) := by decide

/-- R196. -/
theorem test_cfftFwd : left (.cfftFwd .c2 0x100) (withUser 4 (holding 0x100 [0x3F800000, 0, 0x3F800000, 0, 0x3F800000, 0, 0x3F800000, 0]))
    0x100 8 = some [0x40800000, 0, 0, 0, 0, 0, 0, 0] := by decide +kernel

/-- R197. -/
theorem test_cfftBwd : left (.cfftBwd .c2 0x100)
    (withUser 8 (holding 0x100 [0x3F800000, 0, 0x40000000, 0, 0x40400000, 0, 0x40800000, 0, 0x40A00000, 0, 0x40C00000, 0, 0x40E00000, 0,
      0x41000000, 0])) 0x100 4 = some [0x42100000, 0, 0xC0800000, 0xC11A827A] := by decide +kernel

/-- `95_test_vectors.md` section 5.1: slot 0, an impulse at 0. -/
theorem test_imdct : left (.imdct .m0 0x100 0x200) (withFb (holding 0x100 [0x3F800000])) 0x200 3 =
    some [0x3BB3E7BB, 0x3BB1A81D, 0x3BAF61A4] := by decide +kernel

/-- `95_test_vectors.md` section 8: the destination inside the source. -/
theorem test_imdct_fault : faultOf (.imdct .m0 0x1000 0x1040) (withFb State.reset) = some (3, 0x1040) := by decide +kernel

/-- `95_test_vectors.md` section 5.2: slot 0, an impulse at 0. -/
theorem test_mdct : left (.mdct .m0 0x100 0x200) (withFb (holding 0x100 [0x3F800000])) 0x200 3 =
    some [0x3FB3E7BB, 0xBFB85215, 0xBFAF61A4] := by decide +kernel

/-- `95_test_vectors.md` section 8: `OVL` overlaps `TIME`. -/
theorem test_ifb_fault : faultOf (.ifb .onlyLong .sine .sine 0x1000 0x2000 0x23FF) (withFb State.reset) = some (3, 0x23FF) := by
  decide +kernel

/-- R226 and R290: under a transform of ones, the first output is the first window word and the first overlap word the last. -/
theorem test_ifb_onlyLong : ((ifbOnlyLong .sine .sine (List.replicate 2048 0x3F800000) (List.replicate 1024 0)).time.take 1,
    (ifbOnlyLong .sine .sine (List.replicate 2048 0x3F800000) (List.replicate 1024 0)).ovl.take 1) =
    ([0x3A490FD9], [0x3F7FFFFB]) := by decide +kernel

/-- `95_test_vectors.md` section 8: the window sequence is checked before validity. -/
theorem test_ffb_fault : faultOf (.ffb .eightShort .sine .sine 0x1000 0x2000) State.reset = some (8, 2) := by decide

/-- R290 and R237: the first windowed sample of an input 1.0 is the first word of the previous shape's long window. -/
theorem test_ffb_window : windowedInputAt .kbd .sine [0x3F800000] 0 = 0x3A490FD9 := by decide +kernel

/-- `95_test_vectors.md` section 2: products are rounded before the sum. -/
theorem test_cmul : left (.cmul 0x100 0x200) (holding 0x100 [0x3F800001, 0x3F800002, 0x3F800001, 0xBF800000]) 0x200 2 =
    some [0, 0x40000002] := by decide +kernel

/-- `95_test_vectors.md` section 8: a destination that runs off the end. -/
theorem test_cmul_fault : faultOf (.cmul 0xFFFC 0xFFFF) State.reset = some (2, 0xFFFF) := by decide

/-- The sixteen words `PA(q), PB(q)` of `95_test_vectors.md` sections 0 and 3. -/
def pattern8 : List Word :=
  [0xC0000000, 0xC0A00000, 0x40A00000, 0, 0x3F800000, 0x40A00000, 0xC0400000, 0xC0400000, 0x40800000, 0x40000000, 0, 0xC0C00000,
    0xC0800000, 0xBF800000, 0x40400000, 0x40800000]

/-- V3.1, the rotated half. -/
theorem test_pass2p : left (.pass2p .c2 0 4 1 0x100 0x200) (withUser 8 (holding 0x100 pattern8)) 0x20A 6 =
    some [0xBF3504F0, 0x40F8E6CE, 0xC0C00000, 0x40A00000, 0x41131406, 0x3F3504F8] := by decide +kernel

/-- V3.2, the rotated half. -/
theorem test_pass2n : left (.pass2n .c2 0 4 1 0x100 0x200) (withUser 8 (holding 0x100 pattern8)) 0x20A 6 =
    some [0x40F8E6CE, 0x3F3504F0, 0x40C00000, 0xC0A00000, 0xBF3504F8, 0x41131406] := by decide +kernel

/-- R175: one turn, backward. -/
theorem test_pass4p : left (.pass4p .c2 0 1 1 0x100 0x200)
    (withUser 4 (holding 0x100 [0x3F800000, 0, 0, 0x3F800000, 0xBF800000, 0, 0, 0xBF800000])) 0x200 8 =
    some [0, 0, 0, 0, 0, 0, 0x40800000, 0] := by decide +kernel

/-- R175: one turn, forward. -/
theorem test_pass4n : left (.pass4n .c2 0 1 1 0x100 0x200)
    (withUser 4 (holding 0x100 [0x3F800000, 0, 0, 0x3F800000, 0xBF800000, 0, 0, 0xBF800000])) 0x200 8 =
    some [0, 0, 0x40800000, 0, 0, 0, 0, 0] := by decide +kernel

/-- V3.8, the first butterfly's outputs. -/
theorem test_pass3 : left (.pass3 .c2 .neg 6 1 3 0x100 0x200) (withUser 9 (holding 0x100 (pattern8 ++ [0xBF800000, 0xC0800000]))) 0x206 2 =
    some [0xC1154833, 0xC12F6CF6] := by decide +kernel

/-- V3.13. -/
theorem test_pass5 : left (.pass5 .c2 .pos 0 1 1 0x100 0x200) (withUser 5 (holding 0x100 (pattern8.take 10))) 0x200 6 =
    some [0x40A00000, 0xBF800000, 0xBECD4D80, 0xC02CA8CC, 0xBF8EBDB0, 0xC113768B] := by decide +kernel

/-- `95_test_vectors.md` section 8: `IW + IDO > N - 1`. -/
theorem test_pass2p_fault : faultOf (.pass2p .c2 4 4 1 0x100 0x200) (withUser 8 State.reset) = some (9, 0x00040001) := by
  decide +kernel

/-! ### Witnesses: for each statement with hypotheses, a concrete state and operands that meet them, at the edge of each clause -/

theorem reset_inv : State.reset.Inv :=
  { paramsLegal := by decide, memWf := by decide, memInside := by decide, oneFlag := by decide, noFault := by decide,
    faulted := by decide, user := (by intro h; cases h), filterBank := by intro h; cases h }

/-- Reset with the filter bank constructed meets the invariant. -/
theorem fb_inv : (withFb State.reset).Inv :=
  { paramsLegal := by decide, memWf := by decide, memInside := by decide, oneFlag := by decide, noFault := by decide,
    faulted := by decide, user := (by intro h; cases h), filterBank := fun _ => ⟨⟨rfl, rfl, rfl, rfl⟩, ⟨rfl, rfl, rfl, rfl⟩⟩ }

/-- Reset with the user context constructed for 512 meets the invariant. -/
theorem user_inv : (withUser 512 State.reset).Inv :=
  { paramsLegal := by decide, memWf := by decide, memInside := by decide, oneFlag := by decide, noFault := by decide,
    faulted := by decide, user := fun _ => ⟨by decide +kernel, ⟨rfl, rfl, rfl, rfl⟩⟩, filterBank := by intro h; cases h }

/-- A run in progress at the last four words of `DMEM`, which hold `HALT`. -/
def lastHalt : State := { holding 0xFFFC [0x01000000, 0, 0, 0] with cp := 0xFFFC, busy := true }

theorem witness_DecodedIsTheEncoding : decodeDescriptor ⟨0x4580000C, 0x100, 0x200, 0x00010004⟩ = .ok (.pass4n .c2 12 1 4 0x100 0x200) := by
  decide

theorem witness_StepRunsDecodedCommand : lastHalt.busy = true ∧ lastHalt.resetIn.headD false = false ∧
    lastHalt.cp.toNat + 3 < lastHalt.params.dmemWords ∧
    decode ((List.range 16).map fun j => lastHalt.mem.readByte (4 * lastHalt.cp.toNat + j)) = .ok .halt := by decide +kernel

theorem witness_FetchAndDecodeFaults_range : ({ lastHalt with cp := 0xFFFD } : State).busy = true ∧
    ({ lastHalt with cp := 0xFFFD } : State).resetIn.headD false = false ∧
    ({ lastHalt with cp := 0xFFFD } : State).params.dmemWords ≤ ({ lastHalt with cp := 0xFFFD } : State).cp.toNat + 3 := by decide

theorem witness_FetchAndDecodeFaults_illegal :
    let s : State := { holding 0xFFFC [0x02000000] with cp := 0xFFFC, busy := true }
    s.busy = true ∧ s.resetIn.headD false = false ∧ s.cp.toNat + 3 < s.params.dmemWords ∧
      (s.descriptorAt s.cp.toNat).legal = false := by decide +kernel

/-- The second region of `CMUL` runs off the end by one word; the first ends at the end. -/
theorem witness_FirstRegionOutsideFaults : firstFailure (commandChecks State.reset (.cmul 0xFFFC 0xFFFF)) = none ∧
    regions State.reset (.cmul 0xFFFC 0xFFFF) = [⟨0xFFFC, 4, .input⟩] ++ ⟨0xFFFF, 2, .output⟩ :: [] ∧
    (∀ q ∈ [(⟨0xFFFC, 4, .input⟩ : Region)], q.base.toNat + q.len ≤ State.reset.params.dmemWords) ∧
    State.reset.params.dmemWords < (⟨0xFFFF, 2, .output⟩ : Region).base.toNat + 2 := by decide

/-- The first pair of `IFB` intersects in one word. -/
theorem witness_FirstOverlapFaults_first : firstFailure (commandChecks (withFb State.reset) (.ifb .onlyLong .sine .sine 0x1000 0x13FF 0x3000)) = none ∧
    (∀ r ∈ regions (withFb State.reset) (.ifb .onlyLong .sine .sine 0x1000 0x13FF 0x3000), r.base.toNat + r.len ≤ 65536) ∧
    regions (withFb State.reset) (.ifb .onlyLong .sine .sine 0x1000 0x13FF 0x3000) =
      ⟨0x1000, 1024, .input⟩ :: ⟨0x13FF, 1024, .output⟩ :: [⟨0x3000, 1024, .inout⟩] ∧
    ¬ Apart 0x1000 1024 0x13FF 1024 := by unfold Apart; decide +kernel

/-- The third region touches the end of the first, or of the second, by one word. -/
theorem witness_FirstOverlapFaults_third :
    (regions (withFb State.reset) (.ifb .onlyLong .sine .sine 0x1000 0x1400 0x0C01) =
      ⟨0x1000, 1024, .input⟩ :: ⟨0x1400, 1024, .output⟩ :: [⟨0x0C01, 1024, .inout⟩] ∧
      Apart 0x1000 1024 0x1400 1024 ∧ ¬ Apart 0x1000 1024 0x0C01 1024) ∧
    (regions (withFb State.reset) (.ifb .onlyLong .sine .sine 0x1000 0x1400 0x17FF) =
      ⟨0x1000, 1024, .input⟩ :: ⟨0x1400, 1024, .output⟩ :: [⟨0x17FF, 1024, .inout⟩] ∧
      Apart 0x1000 1024 0x1400 1024 ∧ Apart 0x1000 1024 0x17FF 1024 ∧ ¬ Apart 0x1400 1024 0x17FF 1024) := by
  unfold Apart; decide +kernel

theorem witness_IfbOperandFaults : (withFb State.reset).fbV = true ∧
    (¬ Inside (withFb State.reset) 0xFC01 1024) ∧
    (Inside (withFb State.reset) 0xFC00 1024 ∧ ¬ Inside (withFb State.reset) 0xFC01 1024) ∧
    (Inside (withFb State.reset) 0 1024 ∧ Inside (withFb State.reset) 0xFC00 1024 ∧ ¬ Inside (withFb State.reset) 0xFFFFFFFF 1024) ∧
    (Inside (withFb State.reset) 0x1000 1024 ∧ ¬ Apart 0x1000 1024 0x13FF 1024) ∧
    (Apart 0x1000 1024 0x1400 1024 ∧ ¬ (Apart 0x1000 1024 0x17FF 1024 ∧ Apart 0x1400 1024 0x17FF 1024)) := by
  unfold Apart Inside; decide +kernel

theorem witness_InstanceNotReadyFaults : (∀ c : Ctx, State.reset.ctxValid c = false) ∧ State.reset.fbV = false :=
  ⟨fun c => by cases c <;> rfl, rfl⟩

/-- Each of the five ways an argument of a PASS command can be wrong, just past its limit, in a context of size 8. -/
theorem witness_PassArgumentFaults : (withUser 8 State.reset).ctxValid .c2 = true ∧ (0 : BitVec 16) = 0 ∧
    512 < 2 * (1 : BitVec 16).toNat * (257 : BitVec 16).toNat ∧ ((5 : Nat) = 5 ∧ (2 : BitVec 16) ≠ 1) ∧
    ((withUser 8 State.reset).ctx .c2).N ≤ (4 : BitVec 16).toNat + (2 - 1) * (4 : BitVec 16).toNat := by decide

theorem witness_FactorListProperties : accepted 2 = true ∧ accepted 512 = true ∧ accepted 1 = false ∧ accepted 513 = false := by
  decide +kernel

theorem witness_TwiddleTableLayout : accepted 10 = true ∧ factorize 10 = [.r2] ++ .r5 :: [] ∧ 1 ≤ 4 ∧ 4 < Radix.r5.toNat ∧
    0 < 10 / (([.r2] : List Radix).map Radix.toNat).prod / Radix.r5.toNat := by decide +kernel

/-- The fraction; and for each divisor the least size it divides, and a size that all divide. -/
theorem witness_TwiddleDependsOnFraction : (511 < 512 ∧ 1 ≤ 3) ∧ (4 ∣ 4 ∧ 2 ∣ 2 ∧ 8 ∣ 8) ∧ (1 ≤ 512 ∧ 4 ∣ 512 ∧ 2 ∣ 512 ∧ 8 ∣ 512) := by
  decide

theorem witness_CfftInitCompletes : (2 ≤ (512 : Word).toNat ∧ (512 : Word).toNat ≤ 512 ∧ (512 : Word).toNat = 2 ^ 9 * 3 ^ 0 * 5 ^ 0) ∧
    (2 ≤ (2 : Word).toNat ∧ (2 : Word).toNat = 2 ^ 1 * 3 ^ 0 * 5 ^ 0) ∧ ¬ (513 : Word).toNat ≤ 512 := by decide

theorem witness_FbInitRefuses : (1025 : Word) ≠ 1024 ∧ (1028 : Word) ≠ 1024 ∧ (960 : Word) ≠ 1024 := by decide

theorem witness_FbInitIdempotent : (withFb State.reset).Inv ∧ (withFb State.reset).fbV = true := ⟨fb_inv, rfl⟩

theorem witness_DriverIsItsStages : (Context.unbuilt.build 64).Built 64 := ⟨rfl, rfl, rfl, rfl⟩

/-- The last address at which a region of 512 complex values fits. -/
theorem witness_CfftCompletes : (withUser 512 State.reset).Inv ∧ (withUser 512 State.reset).ctxValid .c2 = true ∧
    Inside (withUser 512 State.reset) 0xFC00 (2 * ((withUser 512 State.reset).ctx .c2).N) :=
  ⟨user_inv, rfl, by unfold Inside; decide⟩

theorem witness_FourPointExample :
    let s := withUser 4 (holding 0xFFF8 [0x3F800000, 0, 0x3F800000, 0, 0x3F800000, 0, 0x3F800000, 0])
    s.cuV = true ∧ s.cfft2.Built 4 ∧ Inside s 0xFFF8 8 ∧ ∀ q, q < 4 → complexAt s.mem 0xFFF8 q = ⟨0x3F800000, 0⟩ :=
  ⟨rfl, ⟨rfl, rfl, rfl, rfl⟩, by unfold Inside; decide +kernel, by decide +kernel⟩

theorem witness_ImdctCompletes (m : Slot) : (withFb State.reset).Inv ∧ (withFb State.reset).fbV = true ∧
    Inside (withFb State.reset) 0 (mdctSize m / 2) ∧ Inside (withFb State.reset) 0xF800 (mdctSize m) ∧
    Apart 0 (mdctSize m / 2) 0xF800 (mdctSize m) :=
  ⟨fb_inv, rfl, by cases m <;> (unfold Inside; decide), by cases m <;> (unfold Inside; decide), by cases m <;> (unfold Apart; decide)⟩

theorem witness_MdctCompletes (m : Slot) : (withFb State.reset).Inv ∧ (withFb State.reset).fbV = true ∧
    Inside (withFb State.reset) 0xF800 (mdctSize m) ∧ Inside (withFb State.reset) 0 (mdctSize m / 2) ∧
    Apart 0xF800 (mdctSize m) 0 (mdctSize m / 2) :=
  ⟨fb_inv, rfl, by cases m <;> (unfold Inside; decide), by cases m <;> (unfold Inside; decide), by cases m <;> (unfold Apart; decide)⟩

/-- Adjacent regions, the last at the end of `DMEM`: for the four `IFB` statements and the first-call property. -/
theorem witness_IfbReady : IfbReady (withFb State.reset) 0xF400 0xF800 0xFC00 :=
  { valid := rfl, freqInside := by unfold Inside; decide, timeInside := by unfold Inside; decide, ovlInside := by unfold Inside; decide,
    freqTime := by unfold Apart; decide, freqOvl := by unfold Apart; decide, timeOvl := by unfold Apart; decide }

theorem witness_FirstCallProperty : IfbReady (withFb State.reset) 0xF400 0xF800 0xFC00 ∧
    (∀ i, i < 1024 → wordAt (withFb State.reset).mem 0xFC00 i = 0) ∧
    ∃ t, exec (.ifb .onlyLong .sine .kbd 0xF400 0xF800 0xFC00) (withFb State.reset) = .next t := by
  refine ⟨witness_IfbReady, fun i _ => by show wordOfBytes 0 0 0 0 = 0; decide, ?_⟩
  have h : firstFailure (checks (withFb State.reset) (.ifb .onlyLong .sine .kbd 0xF400 0xF800 0xFC00)) = none := by decide +kernel
  exact ⟨_, (Laws.exec_eq _ _).trans (Laws.perform_of_pass h)⟩

theorem witness_FfbCompletes : (withFb State.reset).fbV = true ∧ Inside (withFb State.reset) 0xF400 2048 ∧
    Inside (withFb State.reset) 0xFC00 1024 ∧ Apart 0xF400 2048 0xFC00 1024 := by unfold Inside Apart; decide

theorem witness_CmulCompletes : Inside State.reset 0xFFFC 4 ∧ Inside State.reset 0xFFFA 2 ∧ Apart 0xFFFC 4 0xFFFA 2 := by
  unfold Inside Apart; decide

/-- The largest twiddle offset that context 2 of size 8 allows, for each radix. -/
theorem witness_RadixTwoPassCompletes : PassReady (withUser 8 State.reset) 2 .c2 3 4 1 0xFFF0 0xFFE0 :=
  { valid := rfl, idoPos := by decide, l1Pos := by decide, size := by decide, five := by decide, table := by decide,
    srcInside := by unfold Inside; decide, dstInside := by unfold Inside; decide, apart := by unfold Apart; decide }

theorem witness_RadixThreePassCompletes : PassReady (withUser 9 State.reset) 3 .c2 6 1 3 0 0xFFEE :=
  { valid := rfl, idoPos := by decide, l1Pos := by decide, size := by decide, five := by decide, table := by decide,
    srcInside := by unfold Inside; decide, dstInside := by unfold Inside; decide, apart := by unfold Apart; decide }

theorem witness_RadixFourPassCompletes : PassReady (withUser 512 State.reset) 4 .c2 127 128 1 0 0x400 :=
  { valid := rfl, idoPos := by decide, l1Pos := by decide, size := by decide, five := by decide, table := by decide,
    srcInside := by unfold Inside; decide, dstInside := by unfold Inside; decide, apart := by unfold Apart; decide }

theorem witness_RadixFivePassCompletes : PassReady (withUser 10 State.reset) 5 .c2 5 1 2 0 20 :=
  { valid := rfl, idoPos := by decide, l1Pos := by decide, size := by decide, five := by decide, table := by decide,
    srcInside := by unfold Inside; decide, dstInside := by unfold Inside; decide, apart := by unfold Apart; decide }

/-- Overflow exactly at the limit, and the largest sum below it (R51, R53). -/
theorem witness_AddRoundsToNearest : isFinite 0x7F7FFFFF = true ∧ isFinite 0x73000000 = true ∧ isFinite 0x72FFFFFF = true ∧
    fval 0x7F7FFFFF + fval 0x73000000 = (2 ^ 25 - 1) * 2 ^ 252 ∧ fval 0x7F7FFFFF + fval 0x72FFFFFF < (2 ^ 25 - 1) * 2 ^ 252 ∧
    fadd 0x7F7FFFFF 0x73000000 = 0x7F800000 ∧ fadd 0x7F7FFFFF 0x72FFFFFF = 0x7F7FFFFF := by decide +kernel

theorem witness_MulRoundsToNearest : isFinite 0x7F7FFFFF = true ∧ isFinite 0x40000000 = true ∧ isFinite 1 = true ∧
    (2 ^ 25 - 1) * 2 ^ 401 ≤ fval 0x7F7FFFFF * fval 0x40000000 ∧ fval 1 * fval 1 < (2 ^ 25 - 1) * 2 ^ 401 := by decide +kernel

theorem witness_NaNIsCanonical : isNaN 0x7F812345 = true ∧ isNaN 0xFFC00001 = true ∧ isInf 0xFF800000 = true ∧
    isNaN (fadd 0x7F800000 0xFF800000) = true ∧ isNaN (fsub 0x7F800000 0x7F800000) = true ∧ isNaN (fmul 0 0x7F800000) = true := by
  decide +kernel

theorem witness_SignedZeros : isFinite 0x7F7FFFFF = true ∧ isNaN 0x7F800000 = false ∧ (0x80000001 : F32) ≠ 0x80000000 ∧
    fmul 0x80000001 1 = 0x80000000 ∧ fmul 1 1 = 0 := by decide +kernel

theorem witness_CommuteAndNegate : isNaN 0x7F800000 = false ∧ isNaN 0x80000000 = false ∧ 30 < 31 := by decide +kernel

theorem witness_MultiplierIdentities : isFinite 1 = true ∧ isFinite 0xFF7FFFFF = true ∧ fval 1 ≠ 0 ∧ fval 0xFF7FFFFF ≠ 0 ∧
    isFinite 0x7F7FFFFF = true ∧ (0x7F7FFFFF : F32).msb = false ∧ (0 : F32).msb = false := by decide +kernel

/-- A command that stores, in a sound state, and a byte just outside its destination. -/
theorem witness_CommandsWriteOnlyTheirRegions : State.reset.Inv ∧ (∃ t, exec (.cmul 0x100 0x104) State.reset = .next t) ∧
    ∀ r ∈ regions State.reset (.cmul 0x100 0x104), r.dir ≠ .input → Outside r.base r.len (4 * 0x106) := by
  refine ⟨reset_inv, ⟨_, rfl⟩, ?_⟩
  unfold Outside; decide

theorem witness_CommandsKeepConstruction : (∃ t, exec (.cmul 0x100 0x104) State.reset = .next t) ∧
    (∀ n, Instr.cmul 0x100 0x104 ≠ .cfftInit n) ∧ ∀ fl, Instr.cmul 0x100 0x104 ≠ .fbInit fl :=
  ⟨⟨_, rfl⟩, by simp, by simp⟩

theorem witness_InvariantKeptByStep : State.reset.Inv ∧ step State.reset = .next State.reset := ⟨reset_inv, rfl⟩

theorem witness_EveryRunEnds : lastHalt.params.legal = true ∧ lastHalt.busy = true ∧ lastHalt.resetIn = [] := by decide

theorem witness_ScratchIsUnobservable : SameButScratch State.reset { State.reset with z0 := [⟨1, 2⟩], transf := [3] } :=
  ⟨rfl, fun c => by cases c <;> exact ⟨rfl, rfl, rfl, rfl⟩⟩

/-- Sequences of steps that go on, and one that the model stops. -/
theorem witness_ScratchIsUnobservable_steps :
    let s : State := { State.reset with hostQueue := [.read .memory 262144 4] }
    SameButScratch s { s with transf := [3] } ∧ steps 0 s = some s ∧ steps 3 State.reset = some State.reset ∧ steps 1 s = none :=
  ⟨⟨rfl, fun c => by cases c <;> exact ⟨rfl, rfl, rfl, rfl⟩⟩, rfl, rfl, rfl⟩

/-- `SRST` with and without `GO`; `GO` alone; `GO` on a recorded fault; neither bit. -/
theorem witness_CtrlWrite : State.reset.busy = false ∧ State.reset.resetIn.headD false = false ∧
    ({ State.reset with hostQueue := [.write .registers 4 4 3] } : State).outstanding = .write .registers 4 4 3 :: [] ∧
    (3 : Word).getLsbD 1 = true ∧ ((1 : Word).getLsbD 1 = false ∧ (1 : Word).getLsbD 0 = true ∧ State.reset.fault = false) ∧
    ((1 : Word).getLsbD 1 = false ∧ (State.reset.tookFault 1 0).fault = true) ∧
    ((0xFFFFFFFC : Word).getLsbD 1 = false ∧ (0xFFFFFFFC : Word).getLsbD 0 = false) := by decide

theorem witness_RegisterReads :
    let s : State := { State.reset with hostQueue := [.read .registers (4 * 7) 4] }
    s.busy = false ∧ s.resetIn.headD false = false ∧ s.outstanding = .read .registers (4 * 7) 4 :: [] := by decide

theorem witness_RegisterWrites :
    let s : State := { State.reset with hostQueue := [.write .registers (4 * 3) 4 0xFFFFFFFF] }
    s.busy = false ∧ s.resetIn.headD false = false ∧ s.outstanding = .write .registers (4 * 3) 4 0xFFFFFFFF :: [] ∧
      (2 : Nat) ≠ 1 ∧ (2 : Nat) ≠ 3 := by decide

/-- The last word of `DMEM`, and the first beyond it. -/
theorem witness_HostMemoryAccess :
    let s : State := { State.reset with hostQueue := [.read .memory (4 * 65535) 4] }
    let t : State := { State.reset with hostQueue := [.write .memory (4 * 65536) 4 1] }
    s.busy = false ∧ s.resetIn.headD false = false ∧ s.outstanding = .read .memory (4 * 65535) 4 :: [] ∧ 65535 < s.params.dmemWords ∧
      t.busy = false ∧ t.resetIn.headD false = false ∧ t.outstanding = .write .memory (4 * 65536) 4 1 :: [] ∧
      t.params.dmemWords ≤ 65536 := by decide

/-- The unsupported accesses: a wider one of the last word of `DMEM`, a misaligned one of the last register, a narrower one. -/
theorem witness_HostMemoryAccess_unsupported :
    let s : State := { State.reset with hostQueue := [.read .memory 262140 8] }
    let t : State := { State.reset with hostQueue := [.write .registers 29 4 1] }
    let u : State := { State.reset with hostQueue := [.read .registers 8 2] }
    (s.busy = false ∧ s.resetIn.headD false = false ∧ s.outstanding = .read .memory 262140 8 :: [] ∧ (8 ≠ 4 ∨ 262140 % 4 ≠ 0)) ∧
      (t.busy = false ∧ t.resetIn.headD false = false ∧ t.outstanding = .write .registers 29 4 1 :: [] ∧ (4 ≠ 4 ∨ 29 % 4 ≠ 0)) ∧
      (u.busy = false ∧ u.resetIn.headD false = false ∧ u.outstanding = .read .registers 8 2 :: [] ∧ (2 ≠ 4 ∨ 8 % 4 ≠ 0)) := by decide

/-- A run with a read of `CP` held and a poll behind it; and the last step of that run, in which a poll arrives. -/
theorem witness_HostIsHeldDuringARun :
    let s : State := { lastHalt with hostQueue := [.read .registers 12 4, .read .registers 8 4] }
    let t : State := { lastHalt with hostIn := [[.read .registers 8 4]] }
    (s.busy = true ∧ (nextOf (step s)).isSome = true) ∧ (t.busy = true ∧ (nextOf (step t)).isSome = true) :=
  ⟨⟨rfl, by decide +kernel⟩, rfl, by decide +kernel⟩

/-- The poll behind the held read of `CP` and the poll that arrives are answered with 1 at once; the read of `CP` stays held (R39). -/
theorem test_polls_overtake_held :
    let s : State := { lastHalt with hostQueue := [.read .registers 12 4, .read .registers 8 4], hostIn := [[.read .registers 8 4]] }
    (nextOf (step s)).map (fun t => (t.hostQueue, t.hostReads)) =
      some ([.read .registers 12 4], [⟨.registers, 8, 1⟩, ⟨.registers, 8, 1⟩]) := by decide +kernel

theorem witness_ResetDuringARun :
    ({ lastHalt with resetIn := [true] } : State).busy = true ∧ ({ lastHalt with resetIn := [true] } : State).resetIn.headD false = true := by
  decide

/-- The reset input with a fault recorded and an access of the host waiting. -/
theorem witness_ResetWhileIdle :
    let s : State := { (withFb State.reset).tookFault 4 2 with resetIn := [true], hostQueue := [.read .registers 8 4] }
    s.busy = false ∧ s.resetIn.headD false = true := ⟨rfl, rfl⟩

theorem witness_OnlyResetClears :
    let s : State := { (withFb State.reset).tookFault 4 2 with cuV := true }
    step s = .next s ∧ s.resetIn.headD false = false ∧
      (s.busy = false → ∀ v rest, s.outstanding = .write .registers 4 4 v :: rest → v.getLsbD 1 = false) ∧
      s.fault = true ∧ s.fbV = true ∧ s.cuV = true :=
  ⟨rfl, rfl, (by intro _ v rest h; cases h), rfl, rfl, rfl⟩

end Sys2Proof.Tests
end

section
/-! Rounded arithmetic (R51 to R55): a word as a sign and a magnitude, what `fadd` and `fmul` can answer, and from these the
statements on NaN and on signed zeros. -/

namespace Sys2Proof.Proofs

open Sys2Proof Sys2Proof.Machine

/-! ### A word as sign and magnitude bits -/

/-- Bits 30:0. Read as numbers they order the words: finite magnitudes, then infinity, then the NaNs. -/
def magBits (a : F32) : Nat := a.toNat % 2 ^ 31

theorem magBits_eq (a : F32) : magBits a = fexp a * 2 ^ 23 + ffrac a := by
  unfold magBits fexp ffrac
  omega

theorem fexp_le (a : F32) : fexp a ≤ 255 := by
  unfold fexp
  omega

theorem ffrac_lt (a : F32) : ffrac a < 2 ^ 23 := Nat.mod_lt _ (by decide)

theorem isNaN_iff (a : F32) : isNaN a = true ↔ infBits < magBits a := by
  have he := fexp_le a
  have hf := ffrac_lt a
  simp only [isNaN, magBits_eq, infBits, Bool.and_eq_true, beq_iff_eq, bne_iff_ne]
  omega

theorem isInf_iff (a : F32) : isInf a = true ↔ magBits a = infBits := by
  have he := fexp_le a
  have hf := ffrac_lt a
  simp only [isInf, magBits_eq, infBits, Bool.and_eq_true, beq_iff_eq]
  omega

theorem isFinite_iff (a : F32) : isFinite a = true ↔ magBits a < infBits := by
  have he := fexp_le a
  have hf := ffrac_lt a
  simp only [isFinite, magBits_eq, infBits, bne_iff_ne]
  omega

theorem isNaN_of_isInf {a : F32} (h : isInf a = true) : isNaN a = false := by
  rw [isInf_iff] at h
  simp [← Bool.not_eq_true, isNaN_iff, h]

theorem isNaN_of_isFinite {a : F32} (h : isFinite a = true) : isNaN a = false := by
  rw [isFinite_iff] at h
  simp [← Bool.not_eq_true, isNaN_iff, h.le]

theorem isInf_of_isFinite {a : F32} (h : isFinite a = true) : isInf a = false := by
  rw [isFinite_iff] at h
  simp [← Bool.not_eq_true, isInf_iff, h.ne]

/-- Every word that is no NaN is an infinity or finite. -/
theorem isInf_or_isFinite {a : F32} (h : isNaN a = false) : isInf a = true ∨ isFinite a = true := by
  rw [← Bool.not_eq_true, isNaN_iff] at h
  rw [isInf_iff, isFinite_iff]
  omega

theorem toNat_withSign {bits : Nat} (s : Bool) (h : bits < 2 ^ 31) :
    (withSign s bits).toNat = bits + if s then 2 ^ 31 else 0 := by
  cases s <;> simp [withSign] <;> omega

@[simp] theorem magBits_withSign {bits : Nat} (s : Bool) (h : bits < 2 ^ 31) : magBits (withSign s bits) = bits := by
  rw [magBits, toNat_withSign s h]
  cases s <;> simp <;> omega

theorem withSign_fsign_magBits (a : F32) : withSign (fsign a) (magBits a) = a := by
  have hmag : magBits a < 2 ^ 31 := Nat.mod_lt _ (by decide)
  apply BitVec.eq_of_toNat_eq
  rw [toNat_withSign _ hmag, fsign, BitVec.msb_eq_decide]
  have ha := a.isLt
  simp only [magBits, decide_eq_true_eq]
  split <;> omega

/-- One infinity for each sign. -/
theorem eq_of_isInf {a b : F32} (ha : isInf a = true) (hb : isInf b = true) (h : fsign a = fsign b) : a = b := by
  rw [isInf_iff] at ha hb
  rw [← withSign_fsign_magBits a, ← withSign_fsign_magBits b, h, ha, hb]

/-- A signed magnitude up to infinity is no NaN. -/
theorem isNaN_withSign {bits : Nat} (s : Bool) (h : bits ≤ infBits) : isNaN (withSign s bits) = false := by
  rw [← Bool.not_eq_true, isNaN_iff, magBits_withSign s (h.trans_lt (by decide))]
  omega

theorem withSign_zero (s : Bool) : withSign s 0 = if s then 0x80000000 else 0 := by
  cases s <;> rfl

theorem isFinite_of_zero {z : F32} (h : z = 0 ∨ z = 0x80000000) : isFinite z = true := by
  obtain rfl | rfl := h <;> rfl

/-! ### Negation -/

@[simp] theorem magBits_fneg (a : F32) : magBits (fneg a) = magBits a := by
  rw [magBits, fneg, BitVec.toNat_xor, Nat.xor_mod_two_pow]
  exact Nat.xor_zero _

@[simp] theorem fsign_fneg (a : F32) : fsign (fneg a) = !fsign a := by
  have htop : (0x80000000 : F32).msb = true := by decide
  rw [fsign, fneg, BitVec.msb_xor, htop, Bool.xor_true, fsign]

@[simp] theorem isNaN_fneg (a : F32) : isNaN (fneg a) = isNaN a := by
  rw [Bool.eq_iff_iff, isNaN_iff, isNaN_iff, magBits_fneg]

@[simp] theorem isInf_fneg (a : F32) : isInf (fneg a) = isInf a := by
  rw [Bool.eq_iff_iff, isInf_iff, isInf_iff, magBits_fneg]

@[simp] theorem isFinite_fneg (a : F32) : isFinite (fneg a) = isFinite a := by
  rw [Bool.eq_iff_iff, isFinite_iff, isFinite_iff, magBits_fneg]

/-- The magnitude depends on bits 30:0 alone. -/
theorem fmag_congr {a b : F32} (h : magBits a = magBits b) : fmag a = fmag b := by
  rw [magBits_eq, magBits_eq] at h
  have ha := ffrac_lt a
  have hb := ffrac_lt b
  have hexp : fexp a = fexp b := by omega
  have hfrac : ffrac a = ffrac b := by omega
  rw [fmag, fmag, hexp, hfrac]

@[simp] theorem fval_fneg (a : F32) : fval (fneg a) = -fval a := by
  rw [fval, fval, fsign_fneg, fmag_congr (magBits_fneg a)]
  cases fsign a <;> simp

/-! ### Values -/

theorem natAbs_fval (a : F32) : (fval a).natAbs = fmag a := by
  rw [fval]
  split <;> simp

theorem fmag_eq_zero_iff (a : F32) : fmag a = 0 ↔ magBits a = 0 := by
  have hf := ffrac_lt a
  rw [fmag, magBits_eq]
  split
  · omega
  · have hpos : (2 ^ 23 + ffrac a) * 2 ^ (fexp a - 1) ≠ 0 := by positivity
    omega

theorem fval_eq_zero_iff (a : F32) : fval a = 0 ↔ a = 0 ∨ a = 0x80000000 := by
  rw [← Int.natAbs_eq_zero, natAbs_fval, fmag_eq_zero_iff]
  constructor
  · intro h
    have ha := withSign_fsign_magBits a
    rw [h] at ha
    cases hs : fsign a <;> rw [hs] at ha
    · exact .inl ha.symm
    · exact .inr ha.symm
  · rintro (rfl | rfl) <;> rfl

/-- Where the value is not zero, its sign is the sign bit. -/
theorem fval_neg_iff {a : F32} (h : fval a ≠ 0) : fval a < 0 ↔ fsign a = true := by
  rw [fval] at h ⊢
  cases fsign a <;> simp at h ⊢
  omega

/-! ### Rounding -/

@[simp] theorem roundBits_zero (k : Nat) : roundBits k 0 = 0 := rfl

theorem roundBits_le (k n : Nat) : roundBits k n ≤ infBits := by
  rw [roundBits]
  split
  · exact Nat.zero_le _
  · exact Nat.min_le_left _ _

/-- A magnitude that is a multiple of the place of its last bit kept is not changed by rounding. -/
theorem roundBits_mul_two_pow {k m q : Nat} (hm : m ≠ 0) (hq : max k (Nat.log2 (m * 2 ^ q) - 23) = q) :
    roundBits k (m * 2 ^ q) = min infBits ((q - k) * 2 ^ 23 + m) := by
  have hn : m * 2 ^ q ≠ 0 := by positivity
  have hpow : 0 ≠ 2 ^ q := (Nat.two_pow_pos q).ne
  simp [roundBits, hn, hq, hpow]

/-- Every finite magnitude is representable: rounding it gives its own bits back. -/
theorem roundBits_fmag {a : F32} (h : isFinite a = true) : roundBits 0 (fmag a) = magBits a := by
  have hf := ffrac_lt a
  rw [isFinite_iff] at h
  rw [fmag]
  split
  next hexp =>
    by_cases hzero : ffrac a = 0
    · simp [magBits_eq, hexp, hzero]
    · have hlog : Nat.log2 (ffrac a) < 23 := (Nat.log2_lt hzero).2 hf
      have hround := roundBits_mul_two_pow (k := 0) (q := 0) hzero (by rw [pow_zero, mul_one]; omega)
      rw [pow_zero, mul_one] at hround
      rw [magBits_eq, hexp] at h ⊢
      omega
  next hexp =>
    have hm : 2 ^ 23 + ffrac a ≠ 0 := by omega
    have hlog : Nat.log2 ((2 ^ 23 + ffrac a) * 2 ^ (fexp a - 1)) = 23 + (fexp a - 1) := by
      have hlow : 2 ^ 23 * 2 ^ (fexp a - 1) ≤ (2 ^ 23 + ffrac a) * 2 ^ (fexp a - 1) :=
        Nat.mul_le_mul_right _ (by omega)
      have hhigh : (2 ^ 23 + ffrac a) * 2 ^ (fexp a - 1) < 2 ^ 24 * 2 ^ (fexp a - 1) :=
        Nat.mul_lt_mul_of_pos_right (by omega) (by positivity)
      rw [Nat.log2_eq_iff (by positivity), show 23 + (fexp a - 1) + 1 = 24 + (fexp a - 1) by omega, pow_add, pow_add]
      exact ⟨hlow, hhigh⟩
    rw [roundBits_mul_two_pow hm (by rw [hlog]; omega)]
    rw [magBits_eq] at h ⊢
    omega

/-- The exact value of a finite word other than a zero rounds to the word itself. -/
theorem withSign_roundBits_fval {a : F32} (hfin : isFinite a = true) (h : fval a ≠ 0) :
    withSign (decide (fval a < 0)) (roundBits 0 (fval a).natAbs) = a := by
  have hsign : decide (fval a < 0) = fsign a := by simp [fval_neg_iff h]
  rw [hsign, natAbs_fval, roundBits_fmag hfin, withSign_fsign_magBits]

/-! ### What `fadd` answers -/

theorem fadd_of_isNaN {a b : F32} (h : isNaN a = true ∨ isNaN b = true) : fadd a b = qnan := by
  simp [fadd, h]

theorem fadd_of_isFinite {a b : F32} (ha : isFinite a = true) (hb : isFinite b = true) :
    fadd a b = if fval a + fval b = 0 then withSign (fsign a && fsign b) 0
      else withSign (decide (fval a + fval b < 0)) (roundBits 0 (fval a + fval b).natAbs) := by
  simp [fadd, isNaN_of_isFinite ha, isNaN_of_isFinite hb, isInf_of_isFinite ha, isInf_of_isFinite hb]

theorem fadd_of_isInf_left {a b : F32} (ha : isInf a = true) (hb : isFinite b = true) : fadd a b = a := by
  simp [fadd, isNaN_of_isInf ha, isNaN_of_isFinite hb, ha, isInf_of_isFinite hb]

theorem fadd_of_isInf_right {a b : F32} (ha : isFinite a = true) (hb : isInf b = true) : fadd a b = b := by
  simp [fadd, isNaN_of_isInf hb, isNaN_of_isFinite ha, hb, isInf_of_isFinite ha]

theorem fadd_of_isInf_of_isInf {a b : F32} (ha : isInf a = true) (hb : isInf b = true) :
    fadd a b = if fsign a = fsign b then a else qnan := by
  simp [fadd, isNaN_of_isInf ha, isNaN_of_isInf hb, ha, hb]

/-- Rounding and infinity stay below the NaNs: a sum is the canonical NaN or no NaN. -/
theorem fadd_eq_qnan_or (a b : F32) : fadd a b = qnan ∨ isNaN (fadd a b) = false := by
  by_cases hnan : isNaN a = true ∨ isNaN b = true
  · exact .inl (fadd_of_isNaN hnan)
  simp only [not_or, Bool.not_eq_true] at hnan
  obtain ⟨ha, hb⟩ := hnan
  obtain hia | hfa := isInf_or_isFinite ha <;> obtain hib | hfb := isInf_or_isFinite hb
  · rw [fadd_of_isInf_of_isInf hia hib]
    split
    · exact .inr ha
    · exact .inl rfl
  · exact .inr (by rw [fadd_of_isInf_left hia hfb, ha])
  · exact .inr (by rw [fadd_of_isInf_right hfa hib, hb])
  · rw [fadd_of_isFinite hfa hfb]
    split
    · exact .inr (isNaN_withSign _ (Nat.zero_le _))
    · exact .inr (isNaN_withSign _ (roundBits_le _ _))

theorem fadd_comm (a b : F32) : fadd a b = fadd b a := by
  by_cases hnan : isNaN a = true ∨ isNaN b = true
  · rw [fadd_of_isNaN hnan, fadd_of_isNaN hnan.symm]
  simp only [not_or, Bool.not_eq_true] at hnan
  obtain ⟨ha, hb⟩ := hnan
  obtain hia | hfa := isInf_or_isFinite ha <;> obtain hib | hfb := isInf_or_isFinite hb
  · rw [fadd_of_isInf_of_isInf hia hib, fadd_of_isInf_of_isInf hib hia]
    by_cases hs : fsign a = fsign b
    · rw [if_pos hs, if_pos hs.symm, eq_of_isInf hia hib hs]
    · rw [if_neg hs, if_neg (Ne.symm hs)]
  · rw [fadd_of_isInf_left hia hfb, fadd_of_isInf_right hfb hia]
  · rw [fadd_of_isInf_right hfa hib, fadd_of_isInf_left hib hfa]
  · rw [fadd_of_isFinite hfa hfb, fadd_of_isFinite hfb hfa, add_comm, Bool.and_comm]

/-- Adding a zero, of either sign, to a value other than zero. -/
theorem zero_fadd {z x : F32} (hz : z = 0 ∨ z = 0x80000000) (hx : isNaN x = false) (hne : fval x ≠ 0) :
    fadd z x = x := by
  have hfz := isFinite_of_zero hz
  obtain hinf | hfin := isInf_or_isFinite hx
  · exact fadd_of_isInf_right hfz hinf
  · rw [fadd_of_isFinite hfz hfin, (fval_eq_zero_iff z).2 hz, zero_add, if_neg hne, withSign_roundBits_fval hfin hne]

/-- Opposite infinities make an invalid sum (R52). -/
theorem fadd_fneg_of_isInf {a : F32} (h : isInf a = true) : fadd a (fneg a) = qnan := by
  rw [fadd_of_isInf_of_isInf h (by rwa [isInf_fneg])]
  simp

/-- Exact cancellation gives `+0` (R55). -/
theorem fadd_fneg_of_isFinite {x : F32} (h : isFinite x = true) : fadd x (fneg x) = 0 := by
  rw [fadd_of_isFinite h (by rwa [isFinite_fneg])]
  simp
  rfl

/-! ### What `fmul` answers -/

theorem fmul_of_isNaN {a b : F32} (h : isNaN a = true ∨ isNaN b = true) : fmul a b = qnan := by
  simp [fmul, h]

theorem fmul_of_isFinite {a b : F32} (ha : isFinite a = true) (hb : isFinite b = true) :
    fmul a b = withSign (fsign a != fsign b) (roundBits 149 (fmag a * fmag b)) := by
  simp [fmul, isNaN_of_isFinite ha, isNaN_of_isFinite hb, isInf_of_isFinite ha, isInf_of_isFinite hb]

/-- A product is the canonical NaN, or has the exclusive or of the signs and a magnitude up to infinity. -/
theorem fmul_eq_qnan_or (a b : F32) :
    fmul a b = qnan ∨ ∃ bits ≤ infBits, fmul a b = withSign (fsign a != fsign b) bits := by
  rw [fmul]
  split
  · exact .inl rfl
  split
  · split
    · exact .inl rfl
    · exact .inr ⟨infBits, le_rfl, rfl⟩
  · exact .inr ⟨_, roundBits_le _ _, rfl⟩

theorem fmul_zero_inf {z a : F32} (hz : z = 0 ∨ z = 0x80000000) (ha : isInf a = true) :
    fmul z a = qnan ∧ fmul a z = qnan := by
  have hfz := isFinite_of_zero hz
  have hmag : fmag z = 0 := by rw [← natAbs_fval, (fval_eq_zero_iff z).2 hz, Int.natAbs_zero]
  simp [fmul, ha, hfz, hmag]

/-- Zero times a finite word, in either order. -/
theorem fmul_zero_of_isFinite {x : F32} (h : isFinite x = true) :
    (fmul x 0 = 0 ∨ fmul x 0 = 0x80000000) ∧ (fmul 0 x = 0 ∨ fmul 0 x = 0x80000000) := by
  have hmag : fmag 0 = 0 := rfl
  rw [fmul_of_isFinite h rfl, fmul_of_isFinite rfl h, hmag, Nat.mul_zero, Nat.zero_mul, roundBits_zero]
  constructor <;> cases fsign x <;> decide

/-- A zero product has the exclusive or of the signs (R55). -/
theorem fmul_zero_sign {x y : F32} (h : fmul x y = 0 ∨ fmul x y = 0x80000000) :
    fmul x y = if x.msb = y.msb then 0 else 0x80000000 := by
  obtain hnan | ⟨bits, hle, hmul⟩ := fmul_eq_qnan_or x y
  · rw [hnan] at h
    exact absurd h (by decide)
  · have hbits : bits = 0 := by
      rw [← magBits_withSign (fsign x != fsign y) (hle.trans_lt (by decide)), ← hmul]
      obtain h | h := h <;> rw [h] <;> rfl
    rw [hmul, hbits, withSign_zero]
    simp [fsign]

/-! ### The obligations -/

/-- Settles O42: sums by their cases, products by `fmul_eq_qnan_or`; a difference is a sum. -/
theorem naNIsCanonical : Obligations.NaNIsCanonical := by
  have hadd : ∀ a b : F32, isNaN (fadd a b) = true → fadd a b = qnan := fun a b h =>
    (fadd_eq_qnan_or a b).resolve_right (by simp [h])
  intro a b
  refine ⟨fun h => ⟨fadd_of_isNaN h, fadd_of_isNaN (by rwa [isNaN_fneg]), fmul_of_isNaN h⟩,
    fun h => ⟨fadd_fneg_of_isInf h, fadd_fneg_of_isInf h, fun z hz => fmul_zero_inf hz h⟩,
    hadd a b, hadd a (fneg b), fun h => ?_⟩
  obtain hnan | ⟨bits, hle, hmul⟩ := fmul_eq_qnan_or a b
  · exact hnan
  · rw [hmul, isNaN_withSign _ hle] at h
    cases h

/-- Settles O43: cancellation and the value of a zero operand for sums, the sign of `fmul_eq_qnan_or` for products. -/
theorem signedZeros : Obligations.SignedZeros := by
  refine ⟨fun x h => ⟨fadd_fneg_of_isFinite h, fadd_fneg_of_isFinite h⟩, fun x hnan hpos hneg => ?_,
    by decide, by decide, by decide, fun x y => fmul_zero_sign, fun x => fmul_zero_of_isFinite⟩
  have hne : fval x ≠ 0 := by
    rw [Ne, fval_eq_zero_iff]
    exact not_or.2 ⟨hpos, hneg⟩
  exact ⟨zero_fadd (.inr rfl) hnan hne, (fadd_comm x 0).trans (zero_fadd (.inl rfl) hnan hne)⟩

end Sys2Proof.Proofs
end

section
/-! Operand checks (R112, R113): the list of a command's checks is searched for its first failure, list part by list part, and from this
the statements on regions outside `DMEM` and on regions that intersect. -/

namespace Sys2Proof.Proofs

open Sys2Proof Sys2Proof.Machine

/-! ### The first failure of a list of checks -/

theorem firstFailure_of_first {before after : List Check} {c : Check} (hbefore : ∀ d ∈ before, d.fails = false)
    (hc : c.fails = true) : firstFailure (before ++ c :: after) = some (c.code, c.info) := by
  rw [Laws.firstFailure_append, Laws.firstFailure_eq_none.2 hbefore]
  simp [firstFailure, hc]

/-- With its own checks passed, a command's first failure is that of the range checks, else that of the disjointness checks (R114). -/
theorem firstFailure_checks {s : State} {i : Instr} (hown : firstFailure (commandChecks s i) = none) :
    firstFailure (checks s i) =
      (firstFailure (rangeChecks s.params (regions s i))).or (firstFailure (overlapChecks (regions s i))) := by
  rw [checks, Laws.firstFailure_append, Laws.firstFailure_append, hown, Option.none_or]

/-- The first failing check of a command is the fault it takes (R114, R310). -/
theorem exec_of_firstFailure {s : State} {i : Instr} {code : FaultCode} {info : Word}
    (h : firstFailure (checks s i) = some (code, info)) : exec i s = .next (s.tookFault (faultNumber code) info) := by
  rw [Laws.exec_eq, Laws.perform_of_fail h]
  rfl

/-! ### Range checks -/

theorem firstFailure_rangeChecks {p : Params} {before after : List Region} {r : Region}
    (hbefore : ∀ q ∈ before, q.base.toNat + q.len ≤ p.dmemWords) (hr : p.dmemWords < r.base.toNat + r.len) :
    firstFailure (rangeChecks p (before ++ r :: after)) = some (.addr, r.base) := by
  rw [rangeChecks, List.map_append, List.map_cons]
  exact firstFailure_of_first (by simpa using hbefore) (by simpa using hr)

/-! ### Disjointness checks -/

theorem intersects_iff_not_apart (p q : Region) :
    p.intersects q = true ↔ ¬ Apart p.base p.len q.base q.len := by
  rw [← Bool.not_eq_false, Laws.intersects_eq_false, Apart, or_comm]

theorem intersects_eq_false_of_apart {p q : Region} (h : Apart p.base p.len q.base q.len) : p.intersects q = false :=
  Laws.intersects_eq_false.2 h.symm

/-- The pair (1,2) comes first, whatever regions follow. -/
theorem firstFailure_overlapChecks_first {p q : Region} (rest : List Region) (hpq : p.intersects q = true) :
    firstFailure (overlapChecks (p :: q :: rest)) = some (.overlap, q.base) :=
  firstFailure_of_first (before := []) (c := ⟨p.intersects q, .overlap, q.base⟩) (by simp) hpq

/-- Of three regions, the pairs (1,3) and (2,3) follow and have the same second region. -/
theorem firstFailure_overlapChecks_third {p q r : Region} (hpq : p.intersects q = false)
    (hr : p.intersects r = true ∨ q.intersects r = true) :
    firstFailure (overlapChecks [p, q, r]) = some (.overlap, r.base) := by
  cases hpr : p.intersects r with
  | true => simp [overlapChecks, firstFailure, hpq, hpr]
  | false =>
    have hqr : q.intersects r = true := hr.resolve_left (by simp [hpr])
    simp [overlapChecks, firstFailure, hpq, hpr, hqr]

/-- With its own checks passed and all regions inside `DMEM`, a command takes the fault of its first intersecting pair. -/
theorem exec_of_overlap {s : State} {i : Instr} {info : Word} (hown : firstFailure (commandChecks s i) = none)
    (hinside : ∀ r ∈ regions s i, r.base.toNat + r.len ≤ s.params.dmemWords)
    (h : firstFailure (overlapChecks (regions s i)) = some (.overlap, info)) : exec i s = .next (s.tookFault 3 info) := by
  have hfail : firstFailure (checks s i) = some (.overlap, info) := by
    rw [firstFailure_checks hown, Laws.rangeChecks_pass.2 hinside, Option.none_or, h]
  exact exec_of_firstFailure hfail

/-! ### The obligations -/

/-- Settles O8: the first range check that fails is the command's first failure. -/
theorem firstRegionOutsideFaults : Obligations.FirstRegionOutsideFaults := by
  intro i s before after r hown hregions hbefore hr
  have hfail : firstFailure (checks s i) = some (.addr, r.base) := by
    rw [firstFailure_checks hown, hregions, firstFailure_rangeChecks hbefore hr, Option.some_or]
  exact exec_of_firstFailure hfail

/-- Settles O9: the range checks pass, and the pairs are checked in their order. -/
theorem firstOverlapFaults : Obligations.FirstOverlapFaults := by
  intro i s p q rest hown hinside hregions
  refine ⟨fun hpq => ?_, ?_⟩
  · apply exec_of_overlap hown hinside
    rw [hregions]
    exact firstFailure_overlapChecks_first rest ((intersects_iff_not_apart p q).2 hpq)
  rintro r rfl hpq
  have hthird (hr : p.intersects r = true ∨ q.intersects r = true) : exec i s = .next (s.tookFault 3 r.base) := by
    apply exec_of_overlap hown hinside
    rw [hregions]
    exact firstFailure_overlapChecks_third (intersects_eq_false_of_apart hpq) hr
  exact ⟨fun hpr => hthird (.inl ((intersects_iff_not_apart p r).2 hpr)),
    fun _ hqr => hthird (.inr ((intersects_iff_not_apart q r).2 hqr))⟩

end Sys2Proof.Proofs
end

section
/-! The passes as commands (R164, R165, R166, R169, R170): a pass whose conditions hold runs to its end and stores the array of its
outputs, said once for every radix; from this the statements on radix 2 and radix 4. -/

namespace Sys2Proof.Proofs

open Sys2Proof Sys2Proof.Machine

/-! ### Complex arrays in memory -/

theorem complexAt_writeComplex (m : Memory) (a : Word) {zs : List Cplx} {p : Nat} (h : p < zs.length) :
    complexAt (m.writeComplex a.toNat zs) a p = elemC zs p := by
  rw [complexAt, Laws.readWord_writeComplex_re m _ zs p h, Laws.readWord_writeComplex_im m _ zs p h, Laws.elemC_eq h]

theorem sameOutside_writeComplex (m : Memory) (a : Word) (zs : List Cplx) :
    SameOutside m (m.writeComplex a.toNat zs) a (2 * zs.length) :=
  fun k hk => Laws.readByte_writeComplex_outside m _ zs k hk

theorem storeComplex_advance (s : State) (a : Word) (zs : List Cplx) :
    (s.storeComplex a zs).advance = s.after (s.mem.writeComplex a.toNat zs) := rfl

theorem passIn_eq_complexAt (m : Memory) (a : Word) {r ido l1 k i j : Nat} (hk : k < l1) (hi : i < ido) (hj : j < r) :
    passIn r ido (m.readComplex a.toNat (r * l1 * ido)) k i j = complexAt m a (i + ido * (r * k + j)) :=
  Laws.passIn_readComplex m _ hk hi hj

/-! ### The rotation of an output -/

@[simp] theorem twiddled_zero (sg : Sign) (ido : Nat) (tw : List Cplx) (iw i : Nat) (d : Cplx) :
    twiddled sg ido tw iw i 0 d = d := by
  simp [twiddled]

theorem toNat_eq_one_iff (x : BitVec 16) : x.toNat = 1 ↔ x = 1 := BitVec.toNat_inj (y := 1)

/-- With the `IDO` field of a command, tested as the field itself. -/
@[simp] theorem twiddled_succ (sg : Sign) (ido : BitVec 16) (tw : List Cplx) (iw i j : Nat) (d : Cplx) :
    twiddled sg ido.toNat tw iw i (j + 1) d = if ido = 1 then d else rot sg d (elemC tw (iw + j * ido.toNat + i)) := by
  simp [twiddled, toNat_eq_one_iff]

/-! ### A pass command that is ready -/

/-- The command `i` has the checks, the regions and the effect of a radix-`r` pass in the direction `sg` (R111, R164). -/
structure IsPass (s : State) (i : Instr) (r : Radix) (sg : Sign) (c : Ctx) (iw ido l1 : BitVec 16) (src dst : Word) : Prop where
  commandChecks_eq : commandChecks s i = passChecks s r.toNat c iw ido l1
  regions_eq : regions s i = passRegions r.toNat ido l1 src dst
  effectOf_eq : Laws.effectOf i = passEffect r sg c iw ido l1 src dst

theorem firstFailure_passChecks {s : State} {r : Nat} {c : Ctx} {iw ido l1 : BitVec 16} {src dst : Word}
    (h : PassReady s r c iw ido l1 src dst) : firstFailure (passChecks s r c iw ido l1) = none := by
  have hzero : ¬ ido = 0#16 ∧ ¬ l1 = 0#16 := ⟨h.idoPos, h.l1Pos⟩
  have hsize : passPoints r ido l1 ≤ cfftNMax := h.size
  simpa [Laws.firstFailure_eq_none, passChecks, passArgChecks, notReady, h.valid, hsize, hzero] using And.intro h.five h.table

theorem firstFailure_checks_of_ready {s : State} {i : Instr} {r : Radix} {sg : Sign} {c : Ctx} {iw ido l1 : BitVec 16}
    {src dst : Word} (hpass : IsPass s i r sg c iw ido l1 src dst) (h : PassReady s r.toNat c iw ido l1 src dst) :
    firstFailure (checks s i) = none := by
  rw [Laws.checks_pass, hpass.commandChecks_eq, hpass.regions_eq]
  refine ⟨firstFailure_passChecks h, Laws.rangeChecks_pass.2 ?_, Laws.overlapChecks_pass.2 ?_⟩
  · simpa [passRegions] using ⟨h.srcInside, h.dstInside⟩
  · simpa [passRegions] using intersects_eq_false_of_apart h.apart

/-- The array that a pass stores: its outputs, for the inputs in memory and the twiddle table of its context (R164). -/
def passResult (s : State) (r : Radix) (sg : Sign) (c : Ctx) (iw ido l1 : BitVec 16) (src : Word) : List Cplx :=
  passOf r sg ido.toNat l1.toNat (s.mem.readComplex src.toNat (passPoints r.toNat ido l1)) (s.ctx c).tw iw.toNat

theorem passEffect_eq (s : State) (r : Radix) (sg : Sign) (c : Ctx) (iw ido l1 : BitVec 16) (src dst : Word) :
    passEffect r sg c iw ido l1 src dst s = s.storeComplex dst (passResult s r sg c iw ido l1 src) := rfl

/-- The array that a ready pass stores has the length of its destination. -/
theorem passResult_length {s : State} {r : Radix} {c : Ctx} {iw ido l1 : BitVec 16} {src dst : Word} (sg : Sign)
    (h : PassReady s r.toNat c iw ido l1 src dst) :
    (passResult s r sg c iw ido l1 src).length = r.toNat * l1.toNat * ido.toNat := by
  apply Laws.passOf_length
  rintro rfl
  exact (toNat_eq_one_iff ido).2 (h.five rfl)

/-- A pass that is ready runs to its end, and output `j` of the butterfly `(k, i)` stands in its place in the destination (R160,
R164). -/
theorem exec_pass_completes {s : State} {i : Instr} {r : Radix} {sg : Sign} {c : Ctx} {iw ido l1 : BitVec 16} {src dst : Word}
    (hpass : IsPass s i r sg c iw ido l1 src dst) (h : PassReady s r.toNat c iw ido l1 src dst) :
    ∃ mem, exec i s = .next (s.after mem) ∧ SameOutside s.mem mem dst (2 * (r.toNat * l1.toNat * ido.toNat)) ∧
      ∀ k i j, k < l1.toNat → i < ido.toNat → j < r.toNat →
        complexAt mem dst (i + ido.toNat * (k + l1.toNat * j)) =
          elemC (passResult s r sg c iw ido l1 src) (i + ido.toNat * (k + l1.toNat * j)) := by
  have hlength := passResult_length sg h
  refine ⟨s.mem.writeComplex dst.toNat (passResult s r sg c iw ido l1 src), ?_, ?_, fun k i j hk hi hj => ?_⟩
  · rw [Laws.exec_eq, Laws.perform_of_pass (firstFailure_checks_of_ready hpass h), hpass.effectOf_eq, passEffect_eq,
      storeComplex_advance]
  · rw [← hlength]
    exact sameOutside_writeComplex s.mem dst _
  · apply complexAt_writeComplex
    rw [hlength]
    exact Laws.pass_place_lt hk hi hj

/-! ### The outputs of each butterfly -/

/-- Output `j` of the butterfly `(k, i)` of a radix-2 pass (R165, R166). -/
theorem elemC_passResult_r2 (s : State) (sg : Sign) (c : Ctx) (iw ido l1 : BitVec 16) (src : Word) {k i j : Nat}
    (hk : k < l1.toNat) (hi : i < ido.toNat) (hj : j < 2) :
    elemC (passResult s .r2 sg c iw ido l1 src) (i + ido.toNat * (k + l1.toNat * j)) =
      twiddled sg ido.toNat (s.ctx c).tw iw.toNat i j
        (bfly2 (complexAt s.mem src (i + ido.toNat * (2 * k))) (complexAt s.mem src (i + ido.toNat * (2 * k + 1))) j) := by
  have hin {j : Nat} (hj : j < 2) := passIn_eq_complexAt s.mem src hk hi hj
  rw [passResult, passOf, pass2, passPoints, Radix.toNat, Laws.elemC_passArray _ hk hi hj, hin (by decide), hin (by decide),
    Nat.add_zero]

/-- Output `j` of the butterfly `(k, i)` of a radix-4 pass (R169, R170). -/
theorem elemC_passResult_r4 (s : State) (sg : Sign) (c : Ctx) (iw ido l1 : BitVec 16) (src : Word) {k i j : Nat}
    (hk : k < l1.toNat) (hi : i < ido.toNat) (hj : j < 4) :
    elemC (passResult s .r4 sg c iw ido l1 src) (i + ido.toNat * (k + l1.toNat * j)) =
      twiddled sg ido.toNat (s.ctx c).tw iw.toNat i j
        (bfly4 sg (complexAt s.mem src (i + ido.toNat * (4 * k))) (complexAt s.mem src (i + ido.toNat * (4 * k + 1)))
          (complexAt s.mem src (i + ido.toNat * (4 * k + 2))) (complexAt s.mem src (i + ido.toNat * (4 * k + 3))) j) := by
  have hin {j : Nat} (hj : j < 4) := passIn_eq_complexAt s.mem src hk hi hj
  rw [passResult, passOf, pass4, passPoints, Radix.toNat, Laws.elemC_passArray _ hk hi hj, hin (by decide), hin (by decide),
    hin (by decide), hin (by decide), Nat.add_zero]

/-- Output 1 of the radix-4 butterfly, the direction said as a test (R169, R170). -/
theorem bfly4_one (sg : Sign) (x0 x1 x2 x3 : Cplx) :
    bfly4 sg x0 x1 x2 x3 1 =
      if sg = .pos then cadd (quadT1 x0 x2) (quadT4 x1 x3) else csub (quadT1 x0 x2) (quadT4 x1 x3) := by
  cases sg <;> rfl

/-- Output 3 of the radix-4 butterfly has the formulas of output 1 exchanged (R169, R170). -/
theorem bfly4_three (sg : Sign) (x0 x1 x2 x3 : Cplx) :
    bfly4 sg x0 x1 x2 x3 3 =
      if sg = .pos then csub (quadT1 x0 x2) (quadT4 x1 x3) else cadd (quadT1 x0 x2) (quadT4 x1 x3) := by
  cases sg <;> rfl

/-! ### The obligations -/

/-- Settles O36: `exec_pass_completes` for `Pass2`, then output 0 without and output 1 with its rotation. -/
theorem radixTwoPassCompletes : Obligations.RadixTwoPassCompletes := by
  intro s c iw ido l1 src dst hready instr sg hinstr
  have hpass : IsPass s instr .r2 sg c iw ido l1 src dst := by
    obtain ⟨rfl, rfl⟩ | ⟨rfl, rfl⟩ := hinstr <;> exact ⟨rfl, rfl, rfl⟩
  obtain ⟨mem, hexec, hframe, hplace⟩ := exec_pass_completes hpass hready
  refine ⟨mem, hexec, hframe, fun k i hk hi => ?_⟩
  have hout (j : Nat) (hj : j < 2) :=
    (hplace k i j hk hi hj).trans (elemC_passResult_r2 s sg c iw ido l1 src hk hi hj)
  have h0 := hout 0 (by decide)
  have h1 := hout 1 (by decide)
  rw [twiddled_zero] at h0
  rw [twiddled_succ] at h1
  exact ⟨by simpa [bfly2] using h0, by simpa [bfly2] using h1⟩

/-- Settles O38: `exec_pass_completes` for `Pass4`, then output 0 without and outputs 1 to 3 with their rotations. -/
theorem radixFourPassCompletes : Obligations.RadixFourPassCompletes := by
  intro s c iw ido l1 src dst hready instr sg hinstr
  have hpass : IsPass s instr .r4 sg c iw ido l1 src dst := by
    obtain ⟨rfl, rfl⟩ | ⟨rfl, rfl⟩ := hinstr <;> exact ⟨rfl, rfl, rfl⟩
  obtain ⟨mem, hexec, hframe, hplace⟩ := exec_pass_completes hpass hready
  refine ⟨mem, hexec, hframe, fun k i hk hi => ?_⟩
  have hout (j : Nat) (hj : j < 4) :=
    (hplace k i j hk hi hj).trans (elemC_passResult_r4 s sg c iw ido l1 src hk hi hj)
  have h0 := hout 0 (by decide)
  have h1 := hout 1 (by decide)
  have h2 := hout 2 (by decide)
  have h3 := hout 3 (by decide)
  rw [twiddled_zero] at h0
  rw [twiddled_succ, bfly4_one, Nat.mul_one, Nat.zero_mul, Nat.add_zero] at h1
  rw [twiddled_succ, Nat.mul_comm l1.toNat, Nat.one_mul] at h2
  rw [twiddled_succ, bfly4_three, Nat.mul_comm l1.toNat] at h3
  exact ⟨h0, h1, h2, h3⟩

end Sys2Proof.Proofs
end

section
/-! The MDCT commands (R202 to R208): the stage driver of R190 is its stages one after another, the rotations, the fold and the two
scatters element by element, and a transform of a slot as a command; from these the statements on `IMDCT` and `MDCT`. -/

namespace Sys2Proof.Proofs

open Sys2Proof Sys2Proof.Machine

/-! ### The stage driver -/

/-- The flag of the driver names the buffer that holds the array the stages so far have made (R190). -/
theorem fftStages_eq_plainStages (N : Nat) (tw : List Cplx) (sg : Sign) (fac : List Radix) (l1 iw : Nat) (na : Bool)
    (buf work : List Cplx) :
    (let out := fftStages N tw sg fac l1 iw na buf work
     if out.1 then out.2.2 else out.2.1) = plainStages N tw sg fac l1 iw (if na then work else buf) := by
  induction fac generalizing l1 iw na buf work with
  | nil => rfl
  | cons r rest ih =>
    rw [fftStages, plainStages, ih]
    cases na <;> rfl

/-- The result of the driver on a context that uses all its factors (R190, R193). -/
theorem cfftRun_fst {c : Context} (h : c.nf = c.fac.length) (buf : List Cplx) (sg : Sign) :
    (cfftRun c buf sg).1 = transform c sg buf := by
  have hfac : c.fac.take c.nf = c.fac := by rw [h, List.take_length]
  rw [transform, cfftRun, hfac]
  exact fftStages_eq_plainStages c.N c.tw sg c.fac 1 0 false buf c.work

theorem cfftRun_fst_of_built {c : Context} {N : Nat} (h : c.Built N) (buf : List Cplx) (sg : Sign) :
    (cfftRun c buf sg).1 = transform c sg buf :=
  cfftRun_fst (by rw [h.count, h.factors]) buf sg

/-! ### Slots -/

theorem mdctSize_mod_eight (m : Slot) : mdctSize m % 8 = 0 := by cases m <;> rfl

/-- The filter bank's construction, said of the context that a slot owns (R44, R143). -/
theorem slotCtx_built {s : State} (hinv : s.Inv) (hfb : s.fbV = true) (m : Slot) :
    (s.ctx (slotCtx m)).Built (mdctSize m / 4) := by
  obtain ⟨h0, h1⟩ := hinv.filterBank hfb
  cases m with
  | m0 => exact h0
  | m1 => exact h1

/-! ### Word arrays in memory -/

theorem wordAt_writeWords (m : Memory) (a : Word) {ws : List F32} {i : Nat} (h : i < ws.length) :
    wordAt (m.writeWords a.toNat ws) a i = elemF ws i := by
  rw [wordAt, Laws.readWord_writeWords_inside m _ ws i h, Laws.elemF_eq h, List.getD_eq_getElem _ _ h]

theorem elemF_readWords_eq_wordAt (m : Memory) (a : Word) {n i : Nat} (h : i < n) :
    elemF (m.readWords a.toNat n) i = wordAt m a i :=
  Laws.elemF_readWords m _ n i h

theorem sameOutside_writeWords (m : Memory) (a : Word) {ws : List F32} {n : Nat} (hlen : ws.length = n) :
    SameOutside m (m.writeWords a.toNat ws) a n := by
  intro k hk
  rw [← hlen] at hk
  exact Laws.readByte_writeWords_outside m _ ws k hk

/-! ### A transform of a slot as a command -/

/-- A command with an input region and an output region passes its checks (R112, R113, R114). -/
theorem firstFailure_checks_of_two_regions {s : State} {i : Instr} {p q : Region}
    (hown : firstFailure (commandChecks s i) = none) (hregions : regions s i = [p, q]) (hp : Inside s p.base p.len)
    (hq : Inside s q.base q.len) (hapart : Apart p.base p.len q.base q.len) : firstFailure (checks s i) = none := by
  rw [Laws.checks_pass, hregions, Laws.rangeChecks_pass, Laws.overlapChecks_pass]
  refine ⟨hown, ?_, ?_⟩
  · simpa [Inside] using And.intro hp hq
  · simpa using intersects_eq_false_of_apart hapart

theorem firstFailure_notReady {valid : Bool} (h : valid = true) (sel : BitVec 2) : firstFailure [notReady valid sel] = none := by
  simp [notReady, firstFailure, h]

theorem storeWords_setScratch_advance (s : State) (m : Slot) (dst : Word) (r : MdctResult) :
    ((s.storeWords dst r.out).setScratch m r).advance =
      ((s.setWork (slotCtx m) r.work).setZ m r.z).after (s.mem.writeWords dst.toNat r.out) := by
  cases m <;> rfl

/-- A command whose checks pass and whose effect is to store the result of a transform of slot `m`. -/
theorem exec_of_slot_transform {s : State} {i : Instr} {m : Slot} {dst : Word} {r : MdctResult}
    (hpass : firstFailure (checks s i) = none) (heffect : Laws.effectOf i s = (s.storeWords dst r.out).setScratch m r) :
    exec i s = .next (((s.setWork (slotCtx m) r.work).setZ m r.z).after (s.mem.writeWords dst.toNat r.out)) := by
  rw [Laws.exec_eq, Laws.perform_of_pass hpass, heffect, storeWords_setScratch_advance]

/-! ### The two rotations of the slots -/

/-- The roundings of a rotation stored imaginary part first (R203). -/
theorem rotateSwapped_eq (x1 x2 : F32) (w : Cplx) :
    rotateSwapped x1 x2 w = ⟨fsub (fmul x2 w.re) (fmul x1 w.im), fadd (fmul x1 w.re) (fmul x2 w.im)⟩ := rfl

/-- The roundings of a rotation stored real part first (R208). -/
theorem rotateNatural_eq (x1 x2 : F32) (w : Cplx) :
    rotateNatural x1 x2 w = ⟨fadd (fmul x1 w.re) (fmul x2 w.im), fsub (fmul x2 w.re) (fmul x1 w.im)⟩ := rfl

/-! ### `Imdct`: rotations (R203) -/

@[simp] theorem imdctPre_length (M : Nat) (rt : List Cplx) (X : List F32) : (imdctPre M rt X).length = M / 4 := by
  simp [imdctPre]

@[simp] theorem imdctPost_length (M : Nat) (rt Z : List Cplx) : (imdctPost M rt Z).length = M / 4 := by
  simp [imdctPost]

theorem elemC_imdctPre {M k : Nat} (hk : k < M / 4) (rt : List Cplx) (X : List F32) :
    elemC (imdctPre M rt X) k = rotateSwapped (elemF X (2 * k)) (elemF X (M / 2 - 1 - 2 * k)) (elemC rt k) :=
  Laws.elemC_tabulate hk _

theorem elemC_imdctPost {M k : Nat} (hk : k < M / 4) (rt Z : List Cplx) :
    elemC (imdctPost M rt Z) k = rotateSwapped (elemC Z k).im (elemC Z k).re (elemC rt k) :=
  Laws.elemC_tabulate hk _

/-- What slot `m` is left holding: the transform of the pre-rotated input, post-rotated (R203). -/
theorem imdct_z {c : Context} {N : Nat} (h : c.Built N) (m : Slot) (X : List F32) :
    (imdct m c X).z =
      imdctPost (mdctSize m) (rotTable m) (transform c .pos (imdctPre (mdctSize m) (rotTable m) X)) := by
  rw [imdct, cfftRun_fst_of_built h]

theorem elemF_imdct_out (m : Slot) (c : Context) (X : List F32) {p : Nat} (hp : p < mdctSize m) :
    elemF (imdct m c X).out p = reorderAt (mdctSize m) (imdct m c X).z p :=
  Laws.elemF_tabulate hp _

/-! ### `Reorder`: the places of a quarter (R204) -/

section
variable {M j : Nat}

theorem quarter_mod {n : Nat} (hn : n < M / 4) (q : Nat) : (M / 4 * q + n) % (M / 4) = n := by
  rw [Nat.mul_add_mod, Nat.mod_eq_of_lt hn]

theorem quarter_div {n : Nat} (hn : n < M / 4) (q : Nat) : (M / 4 * q + n) / (M / 4) = q := by
  rw [Nat.mul_add_div (by omega), Nat.div_eq_of_lt hn, Nat.add_zero]

/-- The compact table of R204 at an even place: `M/8 + j` and `j` count up. -/
theorem reorderAt_even (hj : j < M / 8) (Z : List Cplx) :
    reorderAt M Z (M / 4 * 0 + 2 * j) = (elemC Z (M / 8 + j)).im ∧
    reorderAt M Z (M / 4 * 1 + 2 * j) = (elemC Z j).re ∧
    reorderAt M Z (M / 4 * 2 + 2 * j) = (elemC Z (M / 8 + j)).re ∧
    reorderAt M Z (M / 4 * 3 + 2 * j) = fneg (elemC Z j).im := by
  have hn : 2 * j < M / 4 := by omega
  simp only [reorderAt, quarter_mod hn, quarter_div hn]
  simp

/-- The compact table of R204 at an odd place: `M/8 - 1 - j` and `M/4 - 1 - j` count down. -/
theorem reorderAt_odd (hj : j < M / 8) (Z : List Cplx) :
    reorderAt M Z (M / 4 * 0 + (2 * j + 1)) = fneg (elemC Z (M / 8 - 1 - j)).re ∧
    reorderAt M Z (M / 4 * 1 + (2 * j + 1)) = fneg (elemC Z (M / 4 - 1 - j)).im ∧
    reorderAt M Z (M / 4 * 2 + (2 * j + 1)) = fneg (elemC Z (M / 8 - 1 - j)).im ∧
    reorderAt M Z (M / 4 * 3 + (2 * j + 1)) = (elemC Z (M / 4 - 1 - j)).re := by
  have hn : 2 * j + 1 < M / 4 := by omega
  simp only [reorderAt, quarter_mod hn, quarter_div hn]
  simp

/-- Eight of the sixteen assignments of R204: the rule makes them for `k` itself, `d = 0`, and for the place after it, `d = 1`. -/
theorem reorder_assignments {d k : Nat} (hM : M % 8 = 0) (hk : d + k < M / 8) {y : Nat → F32} {Z : List Cplx}
    (hy : ∀ p, p < M → y p = reorderAt M Z p) :
    (y (2 * d + 2 * k) = (elemC Z (M / 8 + d + k)).im ∧
      y (1 + 2 * d + 2 * k) = fneg (elemC Z (M / 8 - (1 + d) - k)).re) ∧
    (y (M / 4 + 2 * d + 2 * k) = (elemC Z (d + k)).re ∧
      y (M / 4 + (1 + 2 * d) + 2 * k) = fneg (elemC Z (M / 4 - (1 + d) - k)).im) ∧
    (y (M / 2 + 2 * d + 2 * k) = (elemC Z (M / 8 + d + k)).re ∧
      y (M / 2 + (1 + 2 * d) + 2 * k) = fneg (elemC Z (M / 8 - (1 + d) - k)).im) ∧
    y (M / 2 + M / 4 + 2 * d + 2 * k) = fneg (elemC Z (d + k)).im ∧
      y (M / 2 + M / 4 + (1 + 2 * d) + 2 * k) = (elemC Z (M / 4 - (1 + d) - k)).re := by
  have hplace {p q n : Nat} (hp : p < M) (he : p = M / 4 * q + n) : y p = reorderAt M Z (M / 4 * q + n) := by
    rw [hy p hp, he]
  have hup : M / 8 + d + k = M / 8 + (d + k) := by omega
  have hdownHalf : M / 8 - (1 + d) - k = M / 8 - 1 - (d + k) := by omega
  have hdown : M / 4 - (1 + d) - k = M / 4 - 1 - (d + k) := by omega
  obtain ⟨e0, e1, e2, e3⟩ := reorderAt_even hk Z
  obtain ⟨o0, o1, o2, o3⟩ := reorderAt_odd hk Z
  rw [hup, hdownHalf, hdown]
  refine ⟨⟨(hplace ?_ ?_).trans e0, (hplace ?_ ?_).trans o0⟩, ⟨(hplace ?_ ?_).trans e1, (hplace ?_ ?_).trans o1⟩,
    ⟨(hplace ?_ ?_).trans e2, (hplace ?_ ?_).trans o2⟩, (hplace ?_ ?_).trans e3, (hplace ?_ ?_).trans o3⟩ <;> omega

end

/-! ### `Mdct`: fold and scale, post-rotation and scatter (R208) -/

section
variable {M k : Nat} (sc : F32) (rt : List Cplx) (x : List F32)

theorem mdctPre_length (hM : M % 8 = 0) : (mdctPre M sc rt x).length = M / 4 := by
  simp only [mdctPre, List.length_append, List.length_map, List.length_range]
  omega

theorem elemC_mdctPre_low (hk : k < M / 8) : elemC (mdctPre M sc rt x) k = mdctFoldLow M sc rt x k := by
  have hlen : k < ((List.range (M / 8)).map (mdctFoldLow M sc rt x)).length := by simpa using hk
  rw [mdctPre, elemC, List.getD_append _ _ _ _ hlen]
  exact Laws.elemC_tabulate hk _

theorem elemC_mdctPre_high (hk : k < M / 8) : elemC (mdctPre M sc rt x) (k + M / 8) = mdctFoldHigh M sc rt x k := by
  have hlen : ((List.range (M / 8)).map (mdctFoldLow M sc rt x)).length = M / 8 := by simp
  rw [mdctPre, elemC, List.getD_append_right _ _ _ _ (by omega), hlen, Nat.add_sub_cancel]
  exact Laws.elemC_tabulate hk _

end

/-- The scatter of R208: coefficient `2k`. -/
theorem mdctPostAt_even (M : Nat) (rt Z : List Cplx) (k : Nat) :
    mdctPostAt M rt Z (2 * k) = fneg (rotateNatural (elemC Z k).re (elemC Z k).im (elemC rt k)).re := by
  simp [mdctPostAt]

/-- The scatter of R208: coefficient `M/2 - 1 - 2k`, which is odd. -/
theorem mdctPostAt_mirror {M k : Nat} (hM : M % 8 = 0) (hk : k < M / 4) (rt Z : List Cplx) :
    mdctPostAt M rt Z (M / 2 - 1 - 2 * k) = (rotateNatural (elemC Z k).re (elemC Z k).im (elemC rt k)).im := by
  have hodd : ¬ (M / 2 - 1 - 2 * k) % 2 = 0 := by omega
  have hback : (M / 2 - 1 - (M / 2 - 1 - 2 * k)) / 2 = k := by omega
  rw [mdctPostAt, if_neg hodd, hback]

theorem mdctScale_eq (m : Slot) : mdctScale m = if m = .m0 then 0x43800000 else 0x45000000 := by
  cases m <;> rfl

/-- What slot `m` is left holding: the transform of the folded input (R208). -/
theorem mdct_z {c : Context} {N : Nat} (h : c.Built N) (m : Slot) (x : List F32) :
    (mdct m c x).z = transform c .neg (mdctPre (mdctSize m) (mdctScale m) (rotTable m) x) := by
  rw [mdct, cfftRun_fst_of_built h]

theorem elemF_mdct_out (m : Slot) (c : Context) (x : List F32) {q : Nat} (hq : q < mdctSize m / 2) :
    elemF (mdct m c x).out q = mdctPostAt (mdctSize m) (rotTable m) (mdct m c x).z q :=
  Laws.elemF_tabulate hq _

/-! ### The obligations -/

/-- Settles O26: the rotations element by element around the driver's stages, then `reorder_assignments` for both places of a
round. -/
theorem imdctCompletes : Obligations.ImdctCompletes := by
  intro s m src dst hinv hfb hsrc hdst hapart
  have hM := mdctSize_mod_eight m
  have hlen := Laws.imdct_out_length m (s.ctx (slotCtx m)) (s.mem.readWords src.toNat (mdctSize m / 2))
  have hz := imdct_z (slotCtx_built hinv hfb m) m (s.mem.readWords src.toNat (mdctSize m / 2))
  have hpass : firstFailure (checks s (.imdct m src dst)) = none :=
    firstFailure_checks_of_two_regions (firstFailure_notReady hfb m.sel) rfl hsrc hdst hapart
  refine ⟨_, _, imdctPre (mdctSize m) (rotTable m) (s.mem.readWords src.toNat (mdctSize m / 2)), _, _,
    exec_of_slot_transform hpass rfl, ?frame, imdctPre_length .., imdctPost_length .., fun k hk => ?pre, rfl,
    fun k hk => ?post, fun k _ hk => ?reorder⟩
  case frame => exact sameOutside_writeWords s.mem dst hlen
  case pre =>
    rw [elemC_imdctPre hk, elemF_readWords_eq_wordAt _ _ (by omega), elemF_readWords_eq_wordAt _ _ (by omega),
      rotateSwapped_eq]
  case post => rw [hz, elemC_imdctPost hk, rotateSwapped_eq]
  case reorder =>
    have hout (p : Nat) (hp : p < mdctSize m) :=
      (wordAt_writeWords s.mem dst (hlen.symm ▸ hp)).trans (elemF_imdct_out m _ _ hp)
    obtain ⟨⟨a0, a1⟩, ⟨a2, a3⟩, ⟨a4, a5⟩, a6, a7⟩ := reorder_assignments (d := 0) (k := k) hM (by omega) hout
    obtain ⟨⟨b0, b1⟩, ⟨b2, b3⟩, ⟨b4, b5⟩, b6, b7⟩ := reorder_assignments (d := 1) (k := k) hM (by omega) hout
    rw [Nat.mul_zero, Nat.zero_add] at a0
    rw [Nat.zero_add] at a2 a6
    exact ⟨a0, b0, a1, b1, a2, b2, a3, b3, a4, b4, a5, b5, a6, b6, a7, b7⟩

/-- Settles O27: the fold element by element, the driver's stages, and the two scatters of each rotated value. -/
theorem mdctCompletes : Obligations.MdctCompletes := by
  intro s m src dst hinv hfb hsrc hdst hapart
  have hM := mdctSize_mod_eight m
  have hlen := Laws.mdct_out_length m (s.ctx (slotCtx m)) (s.mem.readWords src.toNat (mdctSize m))
  have hpass : firstFailure (checks s (.mdct m src dst)) = none :=
    firstFailure_checks_of_two_regions (firstFailure_notReady hfb m.sel) rfl hsrc hdst hapart
  have hread {i : Nat} (hi : i < mdctSize m) := elemF_readWords_eq_wordAt s.mem src hi
  refine ⟨_, _, mdctPre (mdctSize m) (mdctScale m) (rotTable m) (s.mem.readWords src.toNat (mdctSize m)), _,
    exec_of_slot_transform hpass rfl, ?frame, mdctPre_length _ _ _ hM, fun k hk => ⟨?low, ?high⟩,
    mdct_z (slotCtx_built hinv hfb m) m _, fun k hk => ?scatter⟩
  case frame => exact sameOutside_writeWords s.mem dst hlen
  case low =>
    rw [elemC_mdctPre_low _ _ _ hk, mdctFoldLow, hread (by omega), hread (by omega), hread (by omega), hread (by omega),
      rotateNatural_eq, scaleC, mdctScale_eq]
  case high =>
    rw [elemC_mdctPre_high _ _ _ hk, mdctFoldHigh, hread (by omega), hread (by omega), hread (by omega), hread (by omega),
      rotateNatural_eq, scaleC, mdctScale_eq]
  case scatter =>
    have hout (q : Nat) (hq : q < mdctSize m / 2) :=
      (wordAt_writeWords s.mem dst (hlen.symm ▸ hq)).trans (elemF_mdct_out m _ _ hq)
    refine ⟨?_, ?_⟩
    · rw [hout _ (by omega), mdctPostAt_even, rotateNatural_eq]
    · rw [hout _ (by omega), mdctPostAt_mirror hM hk, rotateNatural_eq]

end Sys2Proof.Proofs
end

section
/-! The filter bank commands (R222 to R237): the transform buffer of `IFB`, the bands of each window sequence sample by sample, `IFB` as a
command with any window sequence, and the windowed input of `FFB`; from these the statements on the four inverse cases and on `FFB`. -/

namespace Sys2Proof.Proofs

open Sys2Proof Sys2Proof.Machine

/-! ### Word arrays in memory -/

theorem wordAt_writeWords_apart (m : Memory) {a b : Word} {n i : Nat} {ws : List F32} (hlen : ws.length = n) {l : Nat}
    (hapart : Apart a l b n) (hi : i < l) : wordAt (m.writeWords b.toNat ws) a i = wordAt m a i := by
  apply Laws.readWord_writeWords_outside
  unfold Apart at hapart
  omega

/-- A part of an array read from memory is the array at its own place (R16). -/
theorem readWords_drop_take (m : Memory) (a : Word) {n k l : Nat} (h : k + l ≤ n) :
    ((m.readWords a.toNat n).drop k).take l = (List.range l).map fun q => wordAt m a (k + q) := by
  apply List.ext_getElem
  · simp only [List.length_take, List.length_drop, Laws.readWords_length, List.length_map, List.length_range]
    omega
  · intro q _ _
    simp [Memory.readWords, wordAt]

/-! ### The transform buffer of `IFB` (R224) -/

/-- The driver fills the work buffer before it reads it, so what that holds at the start is not seen in the result (R57, R190). -/
theorem cfftRun_fst_of_work (c : Context) (work buf : List Cplx) (sg : Sign) :
    (cfftRun { c with work := work } buf sg).1 = (cfftRun c buf sg).1 :=
  (fftStages_eq_plainStages c.N c.tw sg (c.fac.take c.nf) 1 0 false buf work).trans
    (fftStages_eq_plainStages c.N c.tw sg (c.fac.take c.nf) 1 0 false buf c.work).symm

theorem imdct_out_of_work (m : Slot) (c : Context) (work : List Cplx) (X : List F32) :
    (imdct m { c with work := work } X).out = (imdct m c X).out := by
  simp only [imdct, cfftRun_fst_of_work]

/-- Sample `i` of the short transform `b`, among `n` laid end to end (R224). -/
theorem elemF_shortTransforms_out (c : Context) (X : List F32) {n b i : Nat} (hb : b < n) (hi : i < 256) :
    elemF (shortTransforms c X n).out (256 * b + i) = elemF (imdct .m0 c ((X.drop (128 * b)).take 128)).out i := by
  induction n with
  | zero => omega
  | succ n ih =>
    have hlen := Laws.shortTransforms_length c X n
    rw [shortTransforms, imdct_out_of_work]
    obtain hlt | rfl : b < n ∨ b = n := by omega
    · rw [← ih hlt, elemF, List.getD_append _ _ _ _ (by omega), elemF]
    · rw [elemF, List.getD_append_right _ _ _ _ (by omega), hlen, Nat.add_sub_cancel_left, elemF]

/-! ### The samples of each case of `IFB` (R226 to R229) -/

/-- The output samples of a window sequence (R226 to R229). -/
def ifbTimeAt (ws : WindowSequence) (sh shp : Shape) (t O : List F32) : Nat → F32 :=
  match ws with
  | .onlyLong => longRiseAt shp t O
  | .longStart => longRiseAt shp t O
  | .eightShort => eightShortTimeAt sh shp t O
  | .longStop => longStopTimeAt shp t O

/-- The new overlap samples of a window sequence (R226 to R229). -/
def ifbOvlAt (ws : WindowSequence) (sh : Shape) (t : List F32) : Nat → F32 :=
  match ws with
  | .onlyLong => longFallAt sh t
  | .longStart => longStartOvlAt sh t
  | .eightShort => eightShortOvlAt sh t
  | .longStop => longFallAt sh t

theorem ifbCase_time (ws : WindowSequence) (sh shp : Shape) (t O : List F32) :
    (ifbCase ws sh shp t O).time = (List.range frameLen).map (ifbTimeAt ws sh shp t O) := by
  cases ws <;> simp only [ifbCase, ifbOnlyLong, ifbLongStart, ifbEightShort, ifbLongStop, ifbTimeAt]

theorem ifbCase_ovl (ws : WindowSequence) (sh shp : Shape) (t O : List F32) :
    (ifbCase ws sh shp t O).ovl = (List.range frameLen).map (ifbOvlAt ws sh t) := by
  cases ws <;> simp only [ifbCase, ifbOnlyLong, ifbLongStart, ifbEightShort, ifbLongStop, ifbOvlAt]

section
variable (sh shp : Shape) (t O : List F32) (i : Nat)

/-- The new overlap of LongStart: a flat, a falling and a zero band (R227). -/
theorem longStartOvlAt_bands :
    (i < 448 → longStartOvlAt sh t i = elemF t (1024 + i)) ∧
    (i < 128 → longStartOvlAt sh t (448 + i) = windowedAt t (wshort sh) (1472 + i) (127 - i)) ∧
    longStartOvlAt sh t (576 + i) = 0 := by
  refine ⟨fun hi => if_pos hi, fun hi => ?_, ?_⟩ <;>
    simp (disch := omega) only [longStartOvlAt, if_pos, if_neg, Nat.add_sub_cancel_left]

/-- The output of LongStop: a flat, a blended and an added band (R229). -/
theorem longStopTimeAt_bands :
    (i < 448 → longStopTimeAt shp t O i = elemF O i) ∧
    (i < 128 → longStopTimeAt shp t O (448 + i) = fadd (elemF O (448 + i)) (windowedAt t (wshort shp) (448 + i) i)) ∧
    longStopTimeAt shp t O (576 + i) = fadd (elemF O (576 + i)) (elemF t (576 + i)) := by
  refine ⟨fun hi => if_pos hi, fun hi => ?_, ?_⟩ <;>
    simp (disch := omega) only [longStopTimeAt, if_pos, if_neg, Nat.add_sub_cancel_left]

/-- The output of EightShort: the flat band, the four bands of 128 samples and the last one (R228). -/
theorem eightShortTimeAt_bands :
    (i < 448 → eightShortTimeAt sh shp t O i = elemF O i) ∧
    (i < 128 →
      eightShortTimeAt sh shp t O (448 + i) = fadd (elemF O (448 + i)) (windowedAt t (wshort shp) i i) ∧
      eightShortTimeAt sh shp t O (576 + i) = shortBlendAt sh t O (576 + i) 128 256 i ∧
      eightShortTimeAt sh shp t O (704 + i) = shortBlendAt sh t O (704 + i) 384 512 i ∧
      eightShortTimeAt sh shp t O (832 + i) = shortBlendAt sh t O (832 + i) 640 768 i) ∧
    eightShortTimeAt sh shp t O (960 + i) = shortBlendAt sh t O (960 + i) 896 1024 i := by
  refine ⟨fun hi => if_pos hi, fun hi => ⟨?_, ?_, ?_, ?_⟩, ?_⟩ <;>
    simp (disch := omega) only [eightShortTimeAt, if_pos, if_neg, Nat.add_sub_cancel_left, shortRise, Nat.zero_add]

/-- The new overlap of EightShort: its first band continues the last band of the output, so that its sample `i` stands at `i - 64`; then
the four bands of 128 samples and the zero band (R228). -/
theorem eightShortOvlAt_bands :
    (64 ≤ i → i < 128 → eightShortOvlAt sh t (i - 64) = shortPairAt sh t 896 1024 i) ∧
    (i < 128 →
      eightShortOvlAt sh t (64 + i) = shortPairAt sh t 1152 1280 i ∧
      eightShortOvlAt sh t (192 + i) = shortPairAt sh t 1408 1536 i ∧
      eightShortOvlAt sh t (320 + i) = shortPairAt sh t 1664 1792 i ∧
      eightShortOvlAt sh t (448 + i) = shortFall sh t 1920 i) ∧
    eightShortOvlAt sh t (576 + i) = 0 := by
  refine ⟨fun hlow hi => ?_, fun hi => ⟨?_, ?_, ?_, ?_⟩, ?_⟩ <;>
    simp (disch := omega) only [eightShortOvlAt, if_pos, if_neg, Nat.add_sub_cancel_left, Nat.sub_add_cancel]

end

/-! ### `IFB` as a command -/

/-- A command with three regions passes its checks (R112, R113, R114). -/
theorem firstFailure_checks_of_three_regions {s : State} {i : Instr} {p q r : Region}
    (hown : firstFailure (commandChecks s i) = none) (hregions : regions s i = [p, q, r]) (hp : Inside s p.base p.len)
    (hq : Inside s q.base q.len) (hr : Inside s r.base r.len) (hpq : Apart p.base p.len q.base q.len)
    (hpr : Apart p.base p.len r.base r.len) (hqr : Apart q.base q.len r.base r.len) : firstFailure (checks s i) = none := by
  rw [Laws.checks_pass, hregions, Laws.rangeChecks_pass, Laws.overlapChecks_pass]
  refine ⟨hown, ?_, ?_⟩
  · simpa [Inside] using And.intro hp (And.intro hq hr)
  · simp [intersects_eq_false_of_apart hpq, intersects_eq_false_of_apart hpr, intersects_eq_false_of_apart hqr]

theorem firstFailure_checks_of_ifbReady {s : State} {freq time ovl : Word} (h : IfbReady s freq time ovl) (ws : WindowSequence)
    (sh shp : Shape) : firstFailure (checks s (.ifb ws sh shp freq time ovl)) = none :=
  firstFailure_checks_of_three_regions (firstFailure_notReady h.valid ws.sel) rfl h.freqInside h.timeInside h.ovlInside
    h.freqTime h.freqOvl h.timeOvl

section
variable (s : State) (ws : WindowSequence) (sh shp : Shape) (freq time ovl : Word)

/-- What the transform of a window sequence leaves: the transform buffer and the slot's scratch (R223, R224). -/
def ifbTransformed : MdctResult := ifbTransform ws s.cfft0 s.cfft1 (s.mem.readWords freq.toNat frameLen)

/-- The output and the new overlap, for the spectrum and the old overlap in memory (R223). -/
def ifbResult : IfbResult := ifbCase ws sh shp (ifbTransformed s ws freq).out (s.mem.readWords ovl.toNat frameLen)

/-- The memory after `IFB`: the output is written first, then the new overlap (R223). -/
def ifbMemory : Memory :=
  (s.mem.writeWords time.toNat (ifbResult s ws sh shp freq ovl).time).writeWords ovl.toNat (ifbResult s ws sh shp freq ovl).ovl

theorem ifbEffect_advance :
    (ifbEffect ws sh shp freq time ovl s).advance =
      (((s.setWork (slotCtx (ifbSlot ws)) (ifbTransformed s ws freq).work).setZ (ifbSlot ws)
        (ifbTransformed s ws freq).z).setTransf (ifbTransformed s ws freq).out).after
          (ifbMemory s ws sh shp freq time ovl) := by
  unfold ifbEffect ifbMemory ifbResult ifbTransformed
  cases ifbSlot ws <;> rfl

variable {s ws sh shp freq time ovl} {i : Nat}

theorem readByte_ifbMemory {k : Nat} (htime : Outside time 1024 k) (hovl : Outside ovl 1024 k) :
    (ifbMemory s ws sh shp freq time ovl).readByte k = s.mem.readByte k :=
  (sameOutside_writeWords _ ovl (Laws.ifbCase_ovl_length ..) k hovl).trans
    (sameOutside_writeWords s.mem time (Laws.ifbCase_time_length ..) k htime)

/-- The new overlap, which is written after the output, does not touch it. -/
theorem wordAt_ifbMemory_time (hapart : Apart time 1024 ovl 1024) (hi : i < 1024) :
    wordAt (ifbMemory s ws sh shp freq time ovl) time i =
      ifbTimeAt ws sh shp (ifbTransformed s ws freq).out (s.mem.readWords ovl.toNat frameLen) i := by
  have hlength := Laws.ifbCase_time_length ws sh shp (ifbTransformed s ws freq).out (s.mem.readWords ovl.toNat frameLen)
  rw [ifbMemory, ifbResult, wordAt_writeWords_apart _ (Laws.ifbCase_ovl_length ..) hapart hi,
    wordAt_writeWords _ _ (hlength.symm ▸ hi), ifbCase_time, Laws.elemF_tabulate (n := frameLen) hi]

theorem wordAt_ifbMemory_ovl (hi : i < 1024) :
    wordAt (ifbMemory s ws sh shp freq time ovl) ovl i = ifbOvlAt ws sh (ifbTransformed s ws freq).out i := by
  have hlength := Laws.ifbCase_ovl_length ws sh shp (ifbTransformed s ws freq).out (s.mem.readWords ovl.toNat frameLen)
  rw [ifbMemory, ifbResult, wordAt_writeWords _ _ (hlength.symm ▸ hi), ifbCase_ovl, Laws.elemF_tabulate (n := frameLen) hi]

/-- `IFB` runs to its end: what it leaves unchanged, and every sample of the output and of the new overlap, with `O` the old overlap
(R223, R224). -/
theorem exec_ifb_completes (h : IfbReady s freq time ovl) (ws : WindowSequence) (sh shp : Shape) :
    ∃ (mem : Memory) (work z : List Cplx) (t O : List F32),
      exec (.ifb ws sh shp freq time ovl) s =
        .next ((((s.setWork (slotCtx (ifbSlot ws)) work).setZ (ifbSlot ws) z).setTransf t).after mem) ∧
      t = (ifbTransform ws s.cfft0 s.cfft1 ((List.range frameLen).map (wordAt s.mem freq))).out ∧
      (∀ k, Outside time 1024 k → Outside ovl 1024 k → mem.readByte k = s.mem.readByte k) ∧
      (∀ i, i < 1024 → elemF O i = wordAt s.mem ovl i) ∧
      (∀ i, i < 1024 → wordAt mem time i = ifbTimeAt ws sh shp t O i) ∧
      ∀ i, i < 1024 → wordAt mem ovl i = ifbOvlAt ws sh t i := by
  refine ⟨ifbMemory s ws sh shp freq time ovl, (ifbTransformed s ws freq).work, (ifbTransformed s ws freq).z,
    (ifbTransformed s ws freq).out, s.mem.readWords ovl.toNat frameLen, ?runs, rfl, fun k => readByte_ifbMemory, ?old,
    fun i => wordAt_ifbMemory_time h.timeOvl, fun i => wordAt_ifbMemory_ovl⟩
  case runs =>
    rw [Laws.exec_eq, Laws.perform_of_pass (firstFailure_checks_of_ifbReady h ws sh shp)]
    exact congrArg _ (ifbEffect_advance s ws sh shp freq time ovl)
  case old => exact fun i hi => elemF_readWords_eq_wordAt (n := frameLen) _ _ hi

end

/-! ### `FFB` as a command -/

/-- The windowed input of R237, for the input in memory. -/
def ffbWindowed (s : State) (sh shp : Shape) (inp : Word) : List F32 := windowedInput sh shp (s.mem.readWords inp.toNat 2048)

/-- The forward transform of the windowed input (R236). -/
def ffbResult (s : State) (sh shp : Shape) (inp : Word) : MdctResult := mdct .m1 s.cfft1 (ffbWindowed s sh shp inp)

theorem ffbWindowed_length (s : State) (sh shp : Shape) (inp : Word) : (ffbWindowed s sh shp inp).length = 2048 := by
  simp [ffbWindowed, windowedInput, frameLen]

/-- The first half of the windowed input rises with the previous shape (R237). -/
theorem elemF_ffbWindowed_low (s : State) (sh shp : Shape) (inp : Word) {i : Nat} (hi : i < 1024) :
    elemF (ffbWindowed s sh shp inp) i = fmul (wordAt s.mem inp i) (elemF (wlong shp) i) := by
  rw [ffbWindowed, windowedInput, Laws.elemF_tabulate (by unfold frameLen; omega), windowedInputAt, if_pos hi, windowedAt,
    elemF_readWords_eq_wordAt _ _ (by omega)]

/-- The second half of the windowed input falls with the current shape (R237). -/
theorem elemF_ffbWindowed_high (s : State) (sh shp : Shape) (inp : Word) {i : Nat} (hi : i < 1024) :
    elemF (ffbWindowed s sh shp inp) (1024 + i) =
      fmul (wordAt s.mem inp (1024 + i)) (elemF (wlong sh) (1023 - i)) := by
  have hmirror : 2047 - (1024 + i) = 1023 - i := by omega
  rw [ffbWindowed, windowedInput, Laws.elemF_tabulate (by unfold frameLen; omega), windowedInputAt, if_neg (by omega), windowedAt,
    elemF_readWords_eq_wordAt _ _ (by omega), hmirror]

/-- `FFB ONLY_LONG` stores the transform of the windowed input and leaves both buffers as they were made (R236). -/
theorem exec_ffb {s : State} {inp out : Word} (hfb : s.fbV = true) (hinp : Inside s inp 2048) (hout : Inside s out 1024)
    (hapart : Apart inp 2048 out 1024) (sh shp : Shape) :
    exec (.ffb .onlyLong sh shp inp out) s =
      .next ((((s.setWork .c1 (ffbResult s sh shp inp).work).setZ .m1 (ffbResult s sh shp inp).z).setWindowed
        (ffbWindowed s sh shp inp)).after (s.mem.writeWords out.toNat (ffbResult s sh shp inp).out)) := by
  have hpass : firstFailure (checks s (.ffb .onlyLong sh shp inp out)) = none :=
    firstFailure_checks_of_two_regions (firstFailure_notReady hfb 0) rfl hinp hout hapart
  rw [Laws.exec_eq, Laws.perform_of_pass hpass]
  rfl

/-! ### The obligations -/

/-- Settles O28: the samples of OnlyLong are the statement's. -/
theorem ifbOnlyLongCompletes : Obligations.IfbOnlyLongCompletes := by
  intro s sh shp freq time ovl hready
  obtain ⟨mem, work, z, t, O, hexec, ht, hframe, hold, htime, hovl⟩ := exec_ifb_completes hready .onlyLong sh shp
  refine ⟨mem, work, z, t, hexec, ht, hframe, fun i hi => ?time, hovl⟩
  case time =>
    rw [← hold i hi]
    exact htime i hi

/-- Settles O29: the output is that of OnlyLong, and `longStartOvlAt_bands` gives the new overlap. -/
theorem ifbLongStartCompletes : Obligations.IfbLongStartCompletes := by
  intro s sh shp freq time ovl hready
  obtain ⟨mem, work, z, t, O, hexec, ht, hframe, hold, htime, hovl⟩ := exec_ifb_completes hready .longStart sh shp
  have hbands := longStartOvlAt_bands sh t
  refine ⟨mem, work, z, t, hexec, ht, hframe, fun i hi => ?time, fun i hi => ?flat, fun i hi => ?falling, fun i hi => ?zero⟩
  case time =>
    rw [← hold i hi]
    exact htime i hi
  all_goals obtain ⟨hflat, hfalling, hzero⟩ := hbands i
  case flat => exact (hovl i (by omega)).trans (hflat hi)
  case falling => exact (hovl _ (by omega)).trans (hfalling hi)
  case zero => exact (hovl _ (by omega)).trans hzero

/-- Settles O30: the buffer by `elemF_shortTransforms_out`, then the bands of the output and of the new overlap. -/
theorem ifbEightShortCompletes : Obligations.IfbEightShortCompletes := by
  intro s sh shp freq time ovl hready
  obtain ⟨mem, work, z, t, O, hexec, ht, hframe, hold, htime, hovl⟩ := exec_ifb_completes hready .eightShort sh shp
  have htimeBands := eightShortTimeAt_bands sh shp t O
  have hovlBands := eightShortOvlAt_bands sh t
  refine ⟨mem, work, z, t, hexec, fun b hb i hi => ?buffer, hframe, fun i hi => ?flat, fun i hi => ?middle, fun i hi => ?last,
    fun i hlow hi => ?ovlFirst, fun i hi => ?ovlMiddle, fun i hi => ?ovlZero⟩
  case buffer =>
    have hpart : 128 * b + 128 ≤ frameLen := by unfold frameLen; omega
    rw [ht, ← readWords_drop_take s.mem freq hpart]
    exact elemF_shortTransforms_out _ _ hb hi
  case flat =>
    obtain ⟨hflat, -, -⟩ := htimeBands i
    rw [← hold i (by omega)]
    exact (htime i (by omega)).trans (hflat hi)
  case middle =>
    obtain ⟨-, hmiddle, -⟩ := htimeBands i
    obtain ⟨h448, h576, h704, h832⟩ := hmiddle hi
    rw [← hold (448 + i) (by omega), ← hold (576 + i) (by omega), ← hold (704 + i) (by omega), ← hold (832 + i) (by omega)]
    exact ⟨(htime _ (by omega)).trans h448, (htime _ (by omega)).trans h576, (htime _ (by omega)).trans h704,
      (htime _ (by omega)).trans h832⟩
  case last =>
    obtain ⟨-, -, hlast⟩ := htimeBands i
    rw [← hold (960 + i) (by omega)]
    exact (htime _ (by omega)).trans hlast
  case ovlFirst =>
    obtain ⟨hfirst, -, -⟩ := hovlBands i
    exact (hovl _ (by omega)).trans (hfirst hlow hi)
  case ovlMiddle =>
    obtain ⟨-, hmiddle, -⟩ := hovlBands i
    obtain ⟨h64, h192, h320, h448⟩ := hmiddle hi
    exact ⟨(hovl _ (by omega)).trans h64, (hovl _ (by omega)).trans h192, (hovl _ (by omega)).trans h320,
      (hovl _ (by omega)).trans h448⟩
  case ovlZero =>
    obtain ⟨-, -, hzero⟩ := hovlBands i
    exact (hovl _ (by omega)).trans hzero

/-- Settles O31: `longStopTimeAt_bands` gives the output, and the new overlap is that of OnlyLong. -/
theorem ifbLongStopCompletes : Obligations.IfbLongStopCompletes := by
  intro s sh shp freq time ovl hready
  obtain ⟨mem, work, z, t, O, hexec, ht, hframe, hold, htime, hovl⟩ := exec_ifb_completes hready .longStop sh shp
  have hbands := longStopTimeAt_bands shp t O
  refine ⟨mem, work, z, t, hexec, ht, hframe, fun i hi => ?flat, fun i hi => ?blended, fun i hi => ?added, hovl⟩
  all_goals
    rw [← hold _ (by omega)]
    obtain ⟨hflat, hblended, hadded⟩ := hbands i
  case flat => exact (htime i (by omega)).trans (hflat hi)
  case blended => exact (htime _ (by omega)).trans (hblended hi)
  case added => exact (htime _ (by omega)).trans hadded

/-- Settles O33: the two halves of the windowed input, then what `OUT` holds of its transform. -/
theorem ffbCompletes : Obligations.FfbCompletes := by
  intro s sh shp inp out hfb hinp hout hapart
  have hlength : (ffbResult s sh shp inp).out.length = 1024 := Laws.mdct_out_length ..
  exact ⟨_, _, _, _, exec_ffb hfb hinp hout hapart sh shp, sameOutside_writeWords s.mem out hlength,
    ffbWindowed_length s sh shp inp, fun i hi => ⟨elemF_ffbWindowed_low s sh shp inp hi, elemF_ffbWindowed_high s sh shp inp hi⟩,
    fun q hq => wordAt_writeWords s.mem out (hlength.symm ▸ hq)⟩

end Sys2Proof.Proofs
end

section
/-! The faults of a command's own checks (R305, R306, R307, R309, R311): with the checks of R114 in their order, the first that fails is the
fault taken, whatever the operand regions are; from this the statements on commands that come before construction, on window sequences, on
the arguments of the passes and on the frame length of `FB_INIT`. -/

namespace Sys2Proof.Proofs

open Sys2Proof Sys2Proof.Machine

/-! ### The first failure of a command's own checks -/

/-- A failure of a command's own checks comes before any of its operand regions' (R114). -/
theorem exec_of_commandChecks {s : State} {i : Instr} {code : FaultCode} {info : Word}
    (h : firstFailure (commandChecks s i) = some (code, info)) : exec i s = .next (s.tookFault (faultNumber code) info) := by
  apply exec_of_firstFailure
  rw [checks, List.append_assoc, Laws.firstFailure_append, h, Option.some_or]

/-- A command whose own checks begin with one that fails takes that fault. -/
theorem exec_of_head_fails {s : State} {i : Instr} {c : Check} {rest : List Check} (hchecks : commandChecks s i = c :: rest)
    (hc : c.fails = true) : exec i s = .next (s.tookFault (faultNumber c.code) c.info) := by
  apply exec_of_commandChecks
  rw [hchecks]
  exact firstFailure_of_first (before := []) (by simp) hc

/-- Where every check names the same fault, it is taken as soon as one of them fails, whichever it is. -/
theorem firstFailure_of_same {cs : List Check} {code : FaultCode} {info : Word}
    (hsame : ∀ c ∈ cs, c.code = code ∧ c.info = info) (hfails : ∃ c ∈ cs, c.fails = true) :
    firstFailure cs = some (code, info) := by
  cases h : firstFailure cs with
  | none =>
    obtain ⟨c, hmem, hc⟩ := hfails
    exact absurd (Laws.firstFailure_eq_none.1 h c hmem) (by simp [hc])
  | some e =>
    obtain ⟨c, hmem, -, rfl⟩ := Laws.firstFailure_mem h
    obtain ⟨rfl, rfl⟩ := hsame c hmem
    rfl

/-! ### Before construction -/

/-- A command whose own checks begin with the validity of what is not yet constructed (R305). -/
theorem exec_of_notReady {s : State} {i : Instr} {valid : Bool} {sel : BitVec 2} {rest : List Check}
    (hchecks : commandChecks s i = notReady valid sel :: rest) (hvalid : valid = false) :
    exec i s = .next (s.tookFault 4 (sel.zeroExtend 32)) :=
  exec_of_head_fails hchecks (by simp [notReady, hvalid])

/-! ### The window sequence -/

/-- `FFB` tests the window sequence first (R309). -/
theorem exec_ffb_of_ne_onlyLong {ws : WindowSequence} (h : ws ≠ .onlyLong) (s : State) (sh shp : Shape) (inp out : Word) :
    exec (.ffb ws sh shp inp out) s = .next (s.tookFault 8 (ws.sel.zeroExtend 32)) := by
  have hchecks : commandChecks s (.ffb ws sh shp inp out) =
      [⟨ws != .onlyLong, .winSeq, ws.sel.zeroExtend 32⟩, notReady s.fbV 0] := rfl
  exact exec_of_head_fails hchecks (bne_iff_ne.2 h)

/-! ### The arguments of the passes -/

/-- The arguments of a radix-`r` pass fail one of the four tests of R311. -/
def WrongPassArgs (s : State) (r : Nat) (c : Ctx) (iw ido l1 : BitVec 16) : Prop :=
  ido = 0 ∨ l1 = 0 ∨ 512 < r * l1.toNat * ido.toNat ∨ (r = 5 ∧ ido ≠ 1) ∨ (s.ctx c).N ≤ iw.toNat + (r - 1) * ido.toNat

theorem passArgChecks_same (s : State) (r : Nat) (c : Ctx) (iw ido l1 : BitVec 16) :
    ∀ d ∈ passArgChecks s r c iw ido l1, d.code = .passArg ∧ d.info = ido ++ l1 := by
  simp [passArgChecks]

theorem exists_passArgChecks_fails_iff {s : State} {r : Nat} {c : Ctx} {iw ido l1 : BitVec 16} :
    (∃ d ∈ passArgChecks s r c iw ido l1, d.fails = true) ↔ WrongPassArgs s r c iw ido l1 := by
  have hsize : cfftNMax < passPoints r ido l1 ↔ 512 < r * l1.toNat * ido.toNat := Iff.rfl
  simp [passArgChecks, WrongPassArgs, hsize, or_assoc]

/-- A pass on a valid context with wrong arguments (R114, steps 5 and 6; R311). -/
theorem exec_of_wrongPassArgs {s : State} {i : Instr} {r : Nat} {c : Ctx} {iw ido l1 : BitVec 16}
    (hchecks : commandChecks s i = passChecks s r c iw ido l1) (hvalid : s.ctxValid c = true)
    (hwrong : WrongPassArgs s r c iw ido l1) : exec i s = .next (s.tookFault 9 (ido ++ l1)) := by
  have hargs : firstFailure (passArgChecks s r c iw ido l1) = some (.passArg, ido ++ l1) :=
    firstFailure_of_same (passArgChecks_same s r c iw ido l1) (exists_passArgChecks_fails_iff.2 hwrong)
  have hfail : firstFailure (commandChecks s i) = some (.passArg, ido ++ l1) := by
    simpa [hchecks, passChecks, notReady, firstFailure, hvalid] using hargs
  exact exec_of_commandChecks hfail

/-! ### The frame length -/

/-- `MdctCheck(M)` (R200): divisibility by 8 before the table. -/
theorem firstFailure_mdctChecks (M : Nat) :
    firstFailure (mdctChecks M) =
      if M % 8 ≠ 0 then some (.size8, BitVec.ofNat 32 M)
      else if M ≠ 256 ∧ M ≠ 2048 then some (.noTab, BitVec.ofNat 32 M) else none := by
  simp [mdctChecks, firstFailure]

/-- Only the frame length 1024 gives both slots a size of the rotation tables. -/
theorem long_size_not_tabulated {fl : Nat} (hne : fl ≠ 1024) (hshort : ¬ (2 * (fl / 8) ≠ 256 ∧ 2 * (fl / 8) ≠ 2048)) :
    2 * fl ≠ 256 ∧ 2 * fl ≠ 2048 := by
  omega

/-! ### The obligations -/

/-- Settles O11: validity is the first check of each of these commands, but for `FFB`, where it follows that of the window sequence. -/
theorem instanceNotReadyFaults : Obligations.InstanceNotReadyFaults := by
  intro s sg m ws sh shp iw ido l1 x y z
  refine ⟨fun c hctx => ?contexts, fun hfb => ⟨?imdct, ?mdct, ?ifb, ?ffb⟩⟩
  case contexts =>
    have hfault {i : Instr} {rest : List Check} (hchecks : commandChecks s i = notReady (s.ctxValid c) c.sel :: rest) :=
      exec_of_notReady hchecks hctx
    exact ⟨hfault rfl, hfault rfl, hfault rfl, hfault rfl, hfault rfl, hfault rfl, hfault rfl, hfault rfl⟩
  case imdct => exact exec_of_notReady rfl hfb
  case mdct => exact exec_of_notReady rfl hfb
  case ifb => exact exec_of_notReady rfl hfb
  case ffb =>
    have hfail : firstFailure (commandChecks s (.ffb .onlyLong sh shp x y)) = some (.notReady, 0) := by
      simp [commandChecks, notReady, firstFailure, hfb]
    exact exec_of_commandChecks hfail

/-- Settles O12: the window sequence is the first check of `FFB`, and `FINFO` is its `SEL` field. -/
theorem forwardWindowSequenceFaults : Obligations.ForwardWindowSequenceFaults := by
  intro s sh shp inp out
  have hfault {ws : WindowSequence} (h : ws ≠ .onlyLong) := exec_ffb_of_ne_onlyLong h s sh shp inp out
  exact ⟨hfault (by decide), hfault (by decide), hfault (by decide)⟩

/-- Settles O13: `exec_of_wrongPassArgs` for each pass with its radix. -/
theorem passArgumentFaults : Obligations.PassArgumentFaults := by
  intro s c sg iw ido l1 src dst hvalid
  have hfault {i : Instr} {r : Nat} (hchecks : commandChecks s i = passChecks s r c iw ido l1)
      (hwrong : WrongPassArgs s r c iw ido l1) := exec_of_wrongPassArgs hchecks hvalid hwrong
  exact ⟨hfault rfl, hfault rfl, hfault rfl, hfault rfl, hfault rfl, hfault rfl⟩

/-- Settles O21: the first failure of the short size's checks is the fault, else that of the long size's, which cannot pass as well. -/
theorem fbInitRefuses : Obligations.FbInitRefuses := by
  intro s fl hne
  have hne : fl.toNat ≠ 1024 := fun h => hne (BitVec.eq_of_toNat_eq h)
  have hchecks : firstFailure (commandChecks s (.fbInit fl)) =
      (firstFailure (mdctChecks (2 * (fl.toNat / 8)))).or (firstFailure (mdctChecks (2 * fl.toNat))) :=
    Laws.firstFailure_append _ _
  rw [firstFailure_mdctChecks, firstFailure_mdctChecks] at hchecks
  by_cases hshort : 2 * (fl.toNat / 8) % 8 ≠ 0
  · rw [if_pos hshort] at hchecks ⊢
    exact exec_of_commandChecks hchecks
  rw [if_neg hshort] at hchecks ⊢
  by_cases hshortTable : 2 * (fl.toNat / 8) ≠ 256 ∧ 2 * (fl.toNat / 8) ≠ 2048
  · rw [if_pos hshortTable] at hchecks ⊢
    exact exec_of_commandChecks hchecks
  rw [if_neg hshortTable, if_pos (long_size_not_tabulated hne hshortTable), Option.none_or] at hchecks
  rw [if_neg hshortTable]
  split_ifs at hchecks ⊢ <;> exact exec_of_commandChecks hchecks

end Sys2Proof.Proofs
end

section
/-! `CFFT_INIT` (R146, R150, R308): the factor loop of R141 takes a product of 2s, 3s and 5s out of the size and leaves a quotient that none
of them divides, so a size is accepted exactly when it is such a product in range with at most one 5; from this the statement on
`CFFT_INIT`. -/

namespace Sys2Proof.Proofs

open Sys2Proof Sys2Proof.Machine

/-! ### Products of 2s, 3s and 5s -/

/-- A product of the prime factors that the radices have. -/
def RadixProduct (m : Nat) : Prop := ∃ a b c, m = 2 ^ a * 3 ^ b * 5 ^ c

theorem radixProduct_one : RadixProduct 1 := ⟨0, 0, 0, rfl⟩

theorem RadixProduct.mul {m n : Nat} (hm : RadixProduct m) (hn : RadixProduct n) : RadixProduct (m * n) := by
  obtain ⟨a, b, c, rfl⟩ := hm
  obtain ⟨a', b', c', rfl⟩ := hn
  exact ⟨a + a', b + b', c + c', by ring⟩

theorem radixProduct_toNat (r : Radix) : RadixProduct r.toNat := by
  cases r with
  | r2 => exact ⟨1, 0, 0, rfl⟩
  | r3 => exact ⟨0, 1, 0, rfl⟩
  | r4 => exact ⟨2, 0, 0, rfl⟩
  | r5 => exact ⟨0, 0, 1, rfl⟩

theorem two_le_toNat (r : Radix) : 2 ≤ r.toNat := by cases r <;> decide

/-- What divides such a product and has none of its prime factors is 1. -/
theorem RadixProduct.eq_one_of_dvd {m q : Nat} (hm : RadixProduct m) (hdvd : q ∣ m) (h2 : ¬ 2 ∣ q) (h3 : ¬ 3 ∣ q)
    (h5 : ¬ 5 ∣ q) : q = 1 := by
  obtain ⟨a, b, c, rfl⟩ := hm
  have coprime_pow {p : Nat} (k : Nat) (hp : p.Prime) (hq : ¬ p ∣ q) : q.Coprime (p ^ k) :=
    (Nat.Coprime.pow_left k (hp.coprime_iff_not_dvd.2 hq)).symm
  have hcoprime : q.Coprime (2 ^ a * 3 ^ b * 5 ^ c) :=
    ((coprime_pow a Nat.prime_two h2).mul_right (coprime_pow b Nat.prime_three h3)).mul_right (coprime_pow c Nat.prime_five h5)
  exact hcoprime.eq_one_of_dvd hdvd

theorem not_dvd_25_iff (a b c : Nat) : ¬ 25 ∣ 2 ^ a * 3 ^ b * 5 ^ c ↔ c ≤ 1 := by
  have hcoprime : Nat.Coprime (5 ^ 2) (2 ^ a * 3 ^ b) :=
    (Nat.Coprime.pow 2 a (by decide)).mul_right (Nat.Coprime.pow 2 b (by decide))
  have hpow : 25 ∣ 2 ^ a * 3 ^ b * 5 ^ c ↔ 5 ^ 2 ∣ 5 ^ c := hcoprime.dvd_mul_left
  rw [hpow, Nat.pow_dvd_pow_iff_le_right (by decide)]
  omega

/-! ### The factor loop -/

/-- The quotient `q` is left of `n` when radices have been divided out: each of `rs` as often as it divides (R141). -/
structure DividedOut (rs : List Radix) (n q : Nat) : Prop where
  product : ∃ m, RadixProduct m ∧ n = m * q
  rest : ∀ r ∈ rs, ¬ r.toNat ∣ q

/-- One candidate's turn, with as many rounds as the quotient needs. -/
theorem divideOut_dividedOut (r : Radix) {fuel n : Nat} (fac : List Radix) (hpos : 0 < n) (hfuel : n ≤ fuel) :
    DividedOut [r] n (divideOut fuel r n fac).1 := by
  induction fuel generalizing n fac with
  | zero => omega
  | succ fuel ih =>
    rw [divideOut]
    split
    case isTrue hdvd =>
      have hr := two_le_toNat r
      have hn : n = r.toNat * (n / r.toNat) := (Nat.mul_div_cancel' (Nat.dvd_of_mod_eq_zero hdvd)).symm
      have hless : n / r.toNat < n := Nat.div_lt_self hpos hr
      have hposdiv : 0 < n / r.toNat := Nat.pos_of_ne_zero fun h => by rw [h] at hn; omega
      obtain ⟨⟨m, hm, hquot⟩, hrest⟩ := ih (appendFactor fac r) hposdiv (by omega)
      exact ⟨⟨r.toNat * m, (radixProduct_toNat r).mul hm, by rw [Nat.mul_assoc, ← hquot]; exact hn⟩, hrest⟩
    case isFalse hdvd =>
      exact ⟨⟨1, radixProduct_one, (Nat.one_mul n).symm⟩, by simpa [Nat.dvd_iff_mod_eq_zero] using hdvd⟩

/-- The candidates one after another: a later one leaves a divisor, so it brings no earlier one back. -/
theorem foldl_divideOut_dividedOut (rs : List Radix) {N : Nat} (acc : Nat × List Radix) (hpos : 0 < acc.1) (hle : acc.1 ≤ N) :
    DividedOut rs acc.1 (rs.foldl (fun acc r => divideOut N r acc.1 acc.2) acc).1 := by
  induction rs generalizing acc with
  | nil => exact ⟨⟨1, radixProduct_one, (Nat.one_mul _).symm⟩, by simp⟩
  | cons r rs ih =>
    rw [List.foldl_cons]
    obtain ⟨⟨m, hm, hfirst⟩, hr⟩ := divideOut_dividedOut r acc.2 hpos hle
    have hquotPos : 0 < (divideOut N r acc.1 acc.2).1 := Nat.pos_of_ne_zero fun h => by rw [h] at hfirst; omega
    have hquotLe : (divideOut N r acc.1 acc.2).1 ≤ acc.1 := Nat.le_of_dvd hpos ⟨m, by rw [Nat.mul_comm]; exact hfirst⟩
    obtain ⟨⟨m', hm', hlater⟩, hrs⟩ := ih (divideOut N r acc.1 acc.2) hquotPos (hquotLe.trans hle)
    refine ⟨⟨m * m', hm.mul hm', by rw [Nat.mul_assoc, ← hlater]; exact hfirst⟩, ?_⟩
    intro r' hmem hdvd
    rcases List.mem_cons.1 hmem with rfl | hmem
    · exact hr r' (by simp) (hlater ▸ hdvd.mul_left m')
    · exact hrs r' hmem hdvd

theorem factorLoop_dividedOut {N : Nat} (hpos : 0 < N) : DividedOut candidates N (factorLoop N).1 :=
  foldl_divideOut_dividedOut candidates (N, []) hpos le_rfl

/-- The factor loop ends with the quotient 1 exactly for the products of 2s, 3s and 5s (R141). -/
theorem factorLoop_fst_eq_one_iff {N : Nat} (hpos : 0 < N) : (factorLoop N).1 = 1 ↔ RadixProduct N := by
  obtain ⟨⟨m, hm, hN⟩, hrest⟩ := factorLoop_dividedOut hpos
  constructor
  · intro hone
    rw [hone, Nat.mul_one] at hN
    exact hN ▸ hm
  · intro hprod
    have hdvd : (factorLoop N).1 ∣ N := ⟨m, hN.trans (Nat.mul_comm ..)⟩
    exact hprod.eq_one_of_dvd hdvd (hrest .r2 (by decide)) (hrest .r3 (by decide)) (hrest .r5 (by decide))

theorem accepted_iff_tests (N : Nat) :
    accepted N = true ↔ cfftNMin ≤ N ∧ N ≤ cfftNMax ∧ (factorLoop N).1 = 1 ∧ ¬ 25 ∣ N := by
  simp [accepted, Nat.dvd_iff_mod_eq_zero, and_assoc]

/-- The accepted sizes by their prime factors (R146, R308). -/
theorem accepted_iff (N : Nat) :
    accepted N = true ↔ 2 ≤ N ∧ N ≤ 512 ∧ ∃ a b c, c ≤ 1 ∧ N = 2 ^ a * 3 ^ b * 5 ^ c := by
  rw [accepted_iff_tests]
  refine and_congr_right fun hmin => and_congr_right fun _ => ?_
  have hpos : 0 < N := Nat.lt_of_lt_of_le (by decide) hmin
  rw [factorLoop_fst_eq_one_iff hpos]
  constructor
  · rintro ⟨⟨a, b, c, rfl⟩, h25⟩
    exact ⟨a, b, c, (not_dvd_25_iff a b c).1 h25, rfl⟩
  · rintro ⟨a, b, c, hc, rfl⟩
    exact ⟨⟨a, b, c, rfl⟩, (not_dvd_25_iff a b c).2 hc⟩

/-! ### The obligation -/

/-- Settles O19: the one check of `CFFT_INIT` is that of R146, said by prime factors. -/
theorem cfftInitCompletes : Obligations.CfftInitCompletes := by
  intro s n
  refine ⟨fun hgood => ?_, fun hbad => ?_⟩
  · have hpass : firstFailure (checks s (.cfftInit n)) = none := by
      have haccepted := (accepted_iff n.toNat).2 hgood
      simp [checks, commandChecks, regions, rangeChecks, overlapChecks, firstFailure, haccepted]
    rw [Laws.exec_eq, Laws.perform_of_pass hpass]
    rfl
  · have hrefused : accepted n.toNat = false := by
      rw [← Bool.not_eq_true, accepted_iff]
      exact hbad
    have hchecks : commandChecks s (.cfftInit n) = [⟨!accepted n.toNat, .factor, n⟩] := rfl
    exact exec_of_head_fails hchecks (by simp [hrefused])

end Sys2Proof.Proofs
end

section
/-! The encoding (R90 to R100): a masked `W0` is a `W0` packed from its own fields, row by row of R99; from this decoder and encoder are
inverse to each other, and the masks of R99 accept what the conditions of R100 leave. -/

namespace Sys2Proof.Proofs

open Sys2Proof

/-! ### The fields of `W0` (R91) -/

/-- A word of the layout of R91 with any value in each field, the reserved bits too. -/
def wordOfFields (opc : BitVec 8) (sel : BitVec 2) (b21 b20 : BitVec 1) (reserved : BitVec 4) (iw : BitVec 16) : Word :=
  opc ++ sel ++ b21 ++ b20 ++ reserved ++ iw

theorem packW0_eq_wordOfFields (opc : BitVec 8) (sel : BitVec 2) (b21 b20 : BitVec 1) (iw : BitVec 16) :
    packW0 opc sel b21 b20 iw = wordOfFields opc sel b21 b20 0 iw := rfl

theorem append_inj_iff {n m : Nat} {x x' : BitVec n} {y y' : BitVec m} : x ++ y = x' ++ y' ↔ x = x' ∧ y = y' := by
  constructor
  · intro h
    have hlow : y = y' := by
      have hsame := congrArg (BitVec.setWidth m) h
      rwa [BitVec.setWidth_append_eq_right, BitVec.setWidth_append_eq_right] at hsame
    subst hlow
    exact ⟨(BitVec.append_left_inj y).1 h, rfl⟩
  · rintro ⟨rfl, rfl⟩
    rfl

theorem wordOfFields_inj_iff {o o' : BitVec 8} {s s' : BitVec 2} {a a' b b' : BitVec 1} {r r' : BitVec 4} {w w' : BitVec 16} :
    wordOfFields o s a b r w = wordOfFields o' s' a' b' r' w' ↔ o = o' ∧ s = s' ∧ a = a' ∧ b = b' ∧ r = r' ∧ w = w' := by
  have houter : wordOfFields o s a b r w = wordOfFields o' s' a' b' r' w' ↔
      o ++ s ++ a ++ b ++ r = o' ++ s' ++ a' ++ b' ++ r' ∧ w = w' := append_inj_iff
  rw [houter, append_inj_iff, append_inj_iff, append_inj_iff, append_inj_iff]
  simp only [and_assoc]

theorem and_wordOfFields (o o' : BitVec 8) (s s' : BitVec 2) (a a' b b' : BitVec 1) (r r' : BitVec 4) (w w' : BitVec 16) :
    wordOfFields o s a b r w &&& wordOfFields o' s' a' b' r' w' =
      wordOfFields (o &&& o') (s &&& s') (a &&& a') (b &&& b') (r &&& r') (w &&& w') := by
  have houter : wordOfFields o s a b r w &&& wordOfFields o' s' a' b' r' w' =
      (o ++ s ++ a ++ b ++ r &&& o' ++ s' ++ a' ++ b' ++ r') ++ (w &&& w') := BitVec.and_append
  rw [houter, BitVec.and_append, BitVec.and_append, BitVec.and_append, BitVec.and_append, wordOfFields]

theorem w0_eq_wordOfFields (d : Descriptor) : d.w0 = wordOfFields d.opc d.sel d.b21 d.b20 d.reserved d.iw := by
  apply BitVec.eq_of_toNat_eq
  have hw := d.w0.isLt
  simp only [wordOfFields, Descriptor.opc, Descriptor.sel, Descriptor.b21, Descriptor.b20, Descriptor.reserved, Descriptor.iw,
    BitVec.toNat_append, BitVec.extractLsb, BitVec.extractLsb'_toNat, Nat.shiftRight_eq_div_pow]
  rw [← Nat.shiftLeft_add_eq_or_of_lt (by omega), ← Nat.shiftLeft_add_eq_or_of_lt (by omega),
    ← Nat.shiftLeft_add_eq_or_of_lt (by omega), ← Nat.shiftLeft_add_eq_or_of_lt (by omega),
    ← Nat.shiftLeft_add_eq_or_of_lt (by omega)]
  simp only [Nat.shiftLeft_eq]
  omega

/-- A `W0` is packed from given fields exactly when its own fields are these and its reserved bits are 0. -/
theorem w0_eq_packW0_iff (d : Descriptor) (o : BitVec 8) (s : BitVec 2) (a b : BitVec 1) (w : BitVec 16) :
    d.w0 = packW0 o s a b w ↔ d.opc = o ∧ d.sel = s ∧ d.b21 = a ∧ d.b20 = b ∧ d.reserved = 0 ∧ d.iw = w := by
  rw [packW0_eq_wordOfFields, w0_eq_wordOfFields, wordOfFields_inj_iff]

/-! ### The masks of R99 -/

section
variable (d : Descriptor) (o : BitVec 8)

theorem masked_fixed (s : BitVec 2) : d.w0 &&& 0xFFFFFFFF = packW0 o s 0 0 0 ↔ d.w0 = packW0 o s 0 0 0 := by
  rw [show (0xFFFFFFFF : Word) = BitVec.allOnes 32 by rfl, BitVec.and_allOnes]

theorem masked_context : d.w0 &&& 0xFF3FFFFF = packW0 o 0 0 0 0 ↔ d.w0 = packW0 o d.sel 0 0 0 := by
  have hmask : (0xFF3FFFFF : Word) = wordOfFields (.allOnes 8) 0 (.allOnes 1) (.allOnes 1) (.allOnes 4) (.allOnes 16) := by decide
  rw [w0_eq_packW0_iff, packW0_eq_wordOfFields, w0_eq_wordOfFields, hmask, and_wordOfFields, wordOfFields_inj_iff]
  simp [-BitVec.reduceAllOnes]

theorem and_two_eq_zero_iff (s : BitVec 2) : s &&& 2 = 0 ↔ s = (slotOfSel s).sel := by
  revert s; decide

theorem masked_slot : d.w0 &&& 0xFFBFFFFF = packW0 o 0 0 0 0 ↔ d.w0 = packW0 o (slotOfSel d.sel).sel 0 0 0 := by
  have hmask : (0xFFBFFFFF : Word) = wordOfFields (.allOnes 8) 2 (.allOnes 1) (.allOnes 1) (.allOnes 4) (.allOnes 16) := by decide
  rw [w0_eq_packW0_iff, packW0_eq_wordOfFields, w0_eq_wordOfFields, hmask, and_wordOfFields, wordOfFields_inj_iff]
  simp [-BitVec.reduceAllOnes, ← and_two_eq_zero_iff]

theorem masked_shapes : d.w0 &&& 0xFF0FFFFF = packW0 o 0 0 0 0 ↔ d.w0 = packW0 o d.sel d.b21 d.b20 0 := by
  have hmask : (0xFF0FFFFF : Word) = wordOfFields (.allOnes 8) 0 0 0 (.allOnes 4) (.allOnes 16) := by decide
  rw [w0_eq_packW0_iff, packW0_eq_wordOfFields, w0_eq_wordOfFields, hmask, and_wordOfFields, wordOfFields_inj_iff]
  simp [-BitVec.reduceAllOnes]

theorem masked_pass : d.w0 &&& 0xFF3F0000 = packW0 o 0 0 0 0 ↔ d.w0 = packW0 o d.sel 0 0 d.iw := by
  have hmask : (0xFF3F0000 : Word) = wordOfFields (.allOnes 8) 0 (.allOnes 1) (.allOnes 1) (.allOnes 4) 0 := by decide
  rw [w0_eq_packW0_iff, packW0_eq_wordOfFields, w0_eq_wordOfFields, hmask, and_wordOfFields, wordOfFields_inj_iff]
  simp [-BitVec.reduceAllOnes]

theorem masked_signedPass : d.w0 &&& 0xFF1F0000 = packW0 o 0 0 0 0 ↔ d.w0 = packW0 o d.sel d.b21 0 d.iw := by
  have hmask : (0xFF1F0000 : Word) = wordOfFields (.allOnes 8) 0 0 (.allOnes 1) (.allOnes 4) 0 := by decide
  rw [w0_eq_packW0_iff, packW0_eq_wordOfFields, w0_eq_wordOfFields, hmask, and_wordOfFields, wordOfFields_inj_iff]
  simp [-BitVec.reduceAllOnes]

end

/-! ### The rows of R99, format by format -/

theorem row_eq_ok_iff {d : Descriptor} {mask fixed : Word} {unused : List Word} {i j : Instr} :
    row d mask fixed unused i = .ok j ↔ d.w0 &&& mask = fixed ∧ (∀ w ∈ unused, w = 0) ∧ i = j := by
  unfold row
  split
  case isTrue hmask => simp [hmask]
  case isFalse hmask =>
    rw [ne_eq, not_not] at hmask
    split
    case isTrue hunused =>
      have hnonzero : ¬ ∀ w ∈ unused, w = 0 := by simpa using hunused
      exact iff_of_false nofun fun h => hnonzero h.2.1
    case isFalse hunused =>
      have hzero : ∀ w ∈ unused, w = 0 := by simpa using hunused
      exact ⟨fun h => ⟨hmask, hzero, Except.ok.inj h⟩, fun h => congrArg _ h.2.2⟩

theorem ctxOfSel_eq_some_iff (sel : BitVec 2) (c : Ctx) : ctxOfSel sel = some c ↔ sel = c.sel := by
  cases c <;> revert sel <;> decide

theorem ctxRow_eq_ok_iff {d : Descriptor} {mask fixed : Word} {unused : List Word} {i : Ctx → Instr} {j : Instr} :
    ctxRow d mask fixed unused i = .ok j ↔
      ∃ c, d.sel = c.sel ∧ d.w0 &&& mask = fixed ∧ (∀ w ∈ unused, w = 0) ∧ i c = j := by
  simp only [← ctxOfSel_eq_some_iff]
  unfold ctxRow
  cases ctxOfSel d.sel with
  | none => simp
  | some c => simp [row_eq_ok_iff]

/-- The two halves of the last word of a PASS descriptor (R94). -/
theorem ido_append_l1 (d : Descriptor) : d.ido ++ d.l1 = d.w3 := by
  apply BitVec.eq_of_toNat_eq
  have hw := d.w3.isLt
  simp only [Descriptor.ido, Descriptor.l1, BitVec.toNat_append, BitVec.extractLsb, BitVec.extractLsb'_toNat,
    Nat.shiftRight_eq_div_pow]
  rw [← Nat.shiftLeft_add_eq_or_of_lt (by omega), Nat.shiftLeft_eq]
  omega

theorem ido_of_append (w0 w1 w2 : Word) (ido l1 : BitVec 16) : (Descriptor.mk w0 w1 w2 (ido ++ l1)).ido = ido :=
  (append_inj_iff.1 (ido_append_l1 ⟨w0, w1, w2, ido ++ l1⟩)).1

theorem l1_of_append (w0 w1 w2 : Word) (ido l1 : BitVec 16) : (Descriptor.mk w0 w1 w2 (ido ++ l1)).l1 = l1 :=
  (append_inj_iff.1 (ido_append_l1 ⟨w0, w1, w2, ido ++ l1⟩)).2

theorem eq_descriptor {d : Descriptor} {w0 w1 w2 w3 : Word} (h0 : d.w0 = w0) (h1 : d.w1 = w1) (h2 : d.w2 = w2) (h3 : d.w3 = w3) :
    d = ⟨w0, w1, w2, w3⟩ := by
  subst h0 h1 h2 h3
  rfl

theorem slotOfSel_sel (m : Slot) : slotOfSel m.sel = m := by cases m <;> rfl
theorem windowSequenceOfSel_sel (ws : WindowSequence) : windowSequenceOfSel ws.sel = ws := by cases ws <;> rfl
theorem sel_windowSequenceOfSel (sel : BitVec 2) : (windowSequenceOfSel sel).sel = sel := by revert sel; decide
theorem shapeOfBit_bit (s : Shape) : shapeOfBit s.bit = s := by cases s <;> rfl
theorem bit_shapeOfBit (b : BitVec 1) : (shapeOfBit b).bit = b := by revert b; decide
theorem signOfBit_bit (s : Sign) : signOfBit s.bit = s := by cases s <;> rfl
theorem bit_signOfBit (b : BitVec 1) : (signOfBit b).bit = b := by revert b; decide

section
variable {d : Descriptor} {o : BitVec 8} {j : Instr}

/-- Format N: no operand (R92). -/
theorem plainRow_eq_ok_iff {i : Instr} :
    row d 0xFFFFFFFF (packW0 o 0 0 0 0) [d.w1, d.w2, d.w3] i = .ok j ↔ d = ⟨packW0 o 0 0 0 0, 0, 0, 0⟩ ∧ i = j := by
  rw [row_eq_ok_iff, masked_fixed]
  constructor
  · rintro ⟨hw0, hunused, rfl⟩
    exact ⟨eq_descriptor hw0 (hunused _ (by simp)) (hunused _ (by simp)) (hunused _ (by simp)), rfl⟩
  · rintro ⟨rfl, rfl⟩
    exact ⟨rfl, by simp, rfl⟩

/-- A size in `W1` (R92). -/
theorem sizeRow_eq_ok_iff {sel : BitVec 2} {f : Word → Instr} :
    row d 0xFFFFFFFF (packW0 o sel 0 0 0) [d.w2, d.w3] (f d.w1) = .ok j ↔
      ∃ n, d = ⟨packW0 o sel 0 0 0, n, 0, 0⟩ ∧ f n = j := by
  rw [row_eq_ok_iff, masked_fixed]
  constructor
  · rintro ⟨hw0, hunused, rfl⟩
    exact ⟨d.w1, eq_descriptor hw0 rfl (hunused _ (by simp)) (hunused _ (by simp)), rfl⟩
  · rintro ⟨n, rfl, rfl⟩
    exact ⟨rfl, by simp, rfl⟩

/-- Format C: a context and an address (R92). -/
theorem contextRow_eq_ok_iff {f : Ctx → Word → Instr} :
    ctxRow d 0xFF3FFFFF (packW0 o 0 0 0 0) [d.w2, d.w3] (fun c => f c d.w1) = .ok j ↔
      ∃ c a, d = ⟨packW0 o c.sel 0 0 0, a, 0, 0⟩ ∧ f c a = j := by
  rw [ctxRow_eq_ok_iff, masked_context]
  constructor
  · rintro ⟨c, hsel, hw0, hunused, rfl⟩
    rw [hsel] at hw0
    exact ⟨c, d.w1, eq_descriptor hw0 rfl (hunused _ (by simp)) (hunused _ (by simp)), rfl⟩
  · rintro ⟨c, a, rfl, rfl⟩
    rw [Laws.sel_packW0]
    exact ⟨c, rfl, rfl, by simp, rfl⟩

/-- Format M: a slot and two addresses (R92). -/
theorem slotRow_eq_ok_iff {f : Slot → Word → Word → Instr} :
    row d 0xFFBFFFFF (packW0 o 0 0 0 0) [d.w3] (f (slotOfSel d.sel) d.w1 d.w2) = .ok j ↔
      ∃ m src dst, d = ⟨packW0 o m.sel 0 0 0, src, dst, 0⟩ ∧ f m src dst = j := by
  rw [row_eq_ok_iff, masked_slot]
  constructor
  · rintro ⟨hw0, hunused, rfl⟩
    exact ⟨_, _, _, eq_descriptor hw0 rfl rfl (hunused _ (by simp)), rfl⟩
  · rintro ⟨m, src, dst, rfl, rfl⟩
    rw [Laws.sel_packW0, slotOfSel_sel]
    exact ⟨rfl, by simp, rfl⟩

/-- Format F: a window sequence and two shapes; `IFB` uses all three operand words, `FFB` the first two (R92). -/
theorem shapesRow_eq_ok_iff {unused : Descriptor → List Word} {f : WindowSequence → Shape → Shape → Word → Word → Word → Instr} :
    row d 0xFF0FFFFF (packW0 o 0 0 0 0) (unused d)
        (f (windowSequenceOfSel d.sel) (shapeOfBit d.b21) (shapeOfBit d.b20) d.w1 d.w2 d.w3) = .ok j ↔
      ∃ ws sh shp x y z, d = ⟨packW0 o ws.sel sh.bit shp.bit 0, x, y, z⟩ ∧ (∀ w ∈ unused d, w = 0) ∧ f ws sh shp x y z = j := by
  rw [row_eq_ok_iff, masked_shapes]
  constructor
  · rintro ⟨hw0, hunused, rfl⟩
    refine ⟨_, _, _, _, _, _, eq_descriptor ?_ rfl rfl rfl, hunused, rfl⟩
    rw [sel_windowSequenceOfSel, bit_shapeOfBit, bit_shapeOfBit, hw0]
  · rintro ⟨ws, sh, shp, x, y, z, rfl, hunused, rfl⟩
    rw [Laws.sel_packW0, Laws.b21_packW0, Laws.b20_packW0, windowSequenceOfSel_sel, shapeOfBit_bit, shapeOfBit_bit]
    exact ⟨rfl, hunused, rfl⟩

/-- Two addresses (R92). -/
theorem pairRow_eq_ok_iff {f : Word → Word → Instr} :
    row d 0xFFFFFFFF (packW0 o 0 0 0 0) [d.w3] (f d.w1 d.w2) = .ok j ↔
      ∃ src dst, d = ⟨packW0 o 0 0 0 0, src, dst, 0⟩ ∧ f src dst = j := by
  rw [row_eq_ok_iff, masked_fixed]
  constructor
  · rintro ⟨hw0, hunused, rfl⟩
    exact ⟨_, _, eq_descriptor hw0 rfl rfl (hunused _ (by simp)), rfl⟩
  · rintro ⟨src, dst, rfl, rfl⟩
    exact ⟨rfl, by simp, rfl⟩

/-- Format P without a sign (R92). -/
theorem passRow_eq_ok_iff {f : Ctx → BitVec 16 → BitVec 16 → BitVec 16 → Word → Word → Instr} :
    ctxRow d 0xFF3F0000 (packW0 o 0 0 0 0) [] (fun c => f c d.iw d.ido d.l1 d.w1 d.w2) = .ok j ↔
      ∃ c iw ido l1 src dst, d = encodePass o c 0 iw ido l1 src dst ∧ f c iw ido l1 src dst = j := by
  rw [ctxRow_eq_ok_iff, masked_pass]
  constructor
  · rintro ⟨c, hsel, hw0, -, rfl⟩
    rw [hsel] at hw0
    exact ⟨c, _, _, _, _, _, eq_descriptor hw0 rfl rfl (ido_append_l1 d).symm, rfl⟩
  · rintro ⟨c, iw, ido, l1, src, dst, rfl, rfl⟩
    rw [encodePass, Laws.sel_packW0, Laws.iw_packW0, ido_of_append, l1_of_append]
    exact ⟨c, rfl, rfl, by simp, rfl⟩

/-- Format P with a sign (R92). -/
theorem signedPassRow_eq_ok_iff {f : Ctx → Sign → BitVec 16 → BitVec 16 → BitVec 16 → Word → Word → Instr} :
    ctxRow d 0xFF1F0000 (packW0 o 0 0 0 0) [] (fun c => f c (signOfBit d.b21) d.iw d.ido d.l1 d.w1 d.w2) = .ok j ↔
      ∃ c sg iw ido l1 src dst, d = encodePass o c sg.bit iw ido l1 src dst ∧ f c sg iw ido l1 src dst = j := by
  rw [ctxRow_eq_ok_iff, masked_signedPass]
  constructor
  · rintro ⟨c, hsel, hw0, -, rfl⟩
    rw [hsel, ← bit_signOfBit d.b21] at hw0
    exact ⟨c, _, _, _, _, _, _, eq_descriptor hw0 rfl rfl (ido_append_l1 d).symm, rfl⟩
  · rintro ⟨c, sg, iw, ido, l1, src, dst, rfl, rfl⟩
    rw [encodePass, Laws.sel_packW0, Laws.b21_packW0, Laws.iw_packW0, ido_of_append, l1_of_append, signOfBit_bit]
    exact ⟨c, rfl, rfl, by simp, rfl⟩

end

/-! ### Decoder and encoder -/

/-- What decodes is the encoding of its command: the row that accepts a descriptor fixes every field that the command does not name. -/
theorem encode_of_decodeDescriptor {d : Descriptor} {i : Instr} (h : decodeDescriptor d = .ok i) : encode i = d := by
  unfold decodeDescriptor at h
  split at h
  · obtain ⟨rfl, rfl⟩ := (plainRow_eq_ok_iff (o := 0x00)).1 h; rfl
  · obtain ⟨rfl, rfl⟩ := (plainRow_eq_ok_iff (o := 0x01)).1 h; rfl
  · obtain ⟨n, rfl, rfl⟩ := (sizeRow_eq_ok_iff (o := 0x10) (sel := 2)).1 h; rfl
  · obtain ⟨n, rfl, rfl⟩ := (sizeRow_eq_ok_iff (o := 0x12) (sel := 0)).1 h; rfl
  · obtain ⟨c, a, rfl, rfl⟩ := (contextRow_eq_ok_iff (o := 0x20)).1 h; rfl
  · obtain ⟨c, a, rfl, rfl⟩ := (contextRow_eq_ok_iff (o := 0x21)).1 h; rfl
  · obtain ⟨m, src, dst, rfl, rfl⟩ := (slotRow_eq_ok_iff (o := 0x22)).1 h; rfl
  · obtain ⟨m, src, dst, rfl, rfl⟩ := (slotRow_eq_ok_iff (o := 0x23)).1 h; rfl
  · obtain ⟨ws, sh, shp, x, y, z, rfl, -, rfl⟩ := (shapesRow_eq_ok_iff (o := 0x30) (unused := fun _ => []) (f := .ifb)).1 h
    rfl
  · obtain ⟨ws, sh, shp, x, y, z, rfl, hz, rfl⟩ :=
      (shapesRow_eq_ok_iff (o := 0x31) (unused := fun d => [d.w3]) (f := fun ws sh shp x y _ => .ffb ws sh shp x y)).1 h
    obtain rfl : z = 0 := hz z (by simp)
    rfl
  · obtain ⟨src, dst, rfl, rfl⟩ := (pairRow_eq_ok_iff (o := 0x40)).1 h; rfl
  · obtain ⟨c, iw, ido, l1, src, dst, rfl, rfl⟩ := (passRow_eq_ok_iff (o := 0x42)).1 h; rfl
  · obtain ⟨c, iw, ido, l1, src, dst, rfl, rfl⟩ := (passRow_eq_ok_iff (o := 0x43)).1 h; rfl
  · obtain ⟨c, iw, ido, l1, src, dst, rfl, rfl⟩ := (passRow_eq_ok_iff (o := 0x44)).1 h; rfl
  · obtain ⟨c, iw, ido, l1, src, dst, rfl, rfl⟩ := (passRow_eq_ok_iff (o := 0x45)).1 h; rfl
  · obtain ⟨c, sg, iw, ido, l1, src, dst, rfl, rfl⟩ := (signedPassRow_eq_ok_iff (o := 0x46)).1 h; rfl
  · obtain ⟨c, sg, iw, ido, l1, src, dst, rfl, rfl⟩ := (signedPassRow_eq_ok_iff (o := 0x47)).1 h; rfl
  · cases h

theorem decodeDescriptor_encode (i : Instr) : decodeDescriptor (encode i) = .ok i := by
  cases i <;> rw [decodeDescriptor, encode] <;> (try rw [encodePass]) <;> rw [Laws.opc_packW0]
  case nop => exact plainRow_eq_ok_iff.2 ⟨rfl, rfl⟩
  case halt => exact plainRow_eq_ok_iff.2 ⟨rfl, rfl⟩
  case cfftInit n => exact sizeRow_eq_ok_iff.2 ⟨n, rfl, rfl⟩
  case fbInit fl => exact sizeRow_eq_ok_iff.2 ⟨fl, rfl, rfl⟩
  case cfftFwd c a => exact contextRow_eq_ok_iff.2 ⟨c, a, rfl, rfl⟩
  case cfftBwd c a => exact contextRow_eq_ok_iff.2 ⟨c, a, rfl, rfl⟩
  case imdct m src dst => exact slotRow_eq_ok_iff.2 ⟨m, src, dst, rfl, rfl⟩
  case mdct m src dst => exact slotRow_eq_ok_iff.2 ⟨m, src, dst, rfl, rfl⟩
  case ifb ws sh shp x y z =>
    exact (shapesRow_eq_ok_iff (unused := fun _ => []) (f := .ifb)).2 ⟨ws, sh, shp, x, y, z, rfl, by simp, rfl⟩
  case ffb ws sh shp x y =>
    exact (shapesRow_eq_ok_iff (unused := fun d => [d.w3]) (f := fun ws sh shp x y _ => .ffb ws sh shp x y)).2
      ⟨ws, sh, shp, x, y, 0, rfl, by simp, rfl⟩
  case cmul src dst => exact pairRow_eq_ok_iff.2 ⟨src, dst, rfl, rfl⟩
  case pass2p c iw ido l1 src dst => exact passRow_eq_ok_iff.2 ⟨c, iw, ido, l1, src, dst, rfl, rfl⟩
  case pass2n c iw ido l1 src dst => exact passRow_eq_ok_iff.2 ⟨c, iw, ido, l1, src, dst, rfl, rfl⟩
  case pass4p c iw ido l1 src dst => exact passRow_eq_ok_iff.2 ⟨c, iw, ido, l1, src, dst, rfl, rfl⟩
  case pass4n c iw ido l1 src dst => exact passRow_eq_ok_iff.2 ⟨c, iw, ido, l1, src, dst, rfl, rfl⟩
  case pass3 c sg iw ido l1 src dst => exact signedPassRow_eq_ok_iff.2 ⟨c, sg, iw, ido, l1, src, dst, rfl, rfl⟩
  case pass5 c sg iw ido l1 src dst => exact signedPassRow_eq_ok_iff.2 ⟨c, sg, iw, ido, l1, src, dst, rfl, rfl⟩

/-- The decoder on the bytes of a descriptor, whatever follows them (R63, R90). -/
theorem decode_bytes_append (d : Descriptor) (rest : List Byte) : decode (d.bytes ++ rest) = decodeDescriptor d := by
  simp only [Descriptor.bytes, bytesOfWord, List.cons_append, List.nil_append, decode, Laws.wordOfBytes_bytes]

/-! ### Legal descriptors (R100) -/

/-- The encoding of every command, with every operand, is a legal descriptor. -/
theorem legal_encode (i : Instr) : (encode i).legal = true := by
  cases i
  case nop => exact Laws.EncodedDescriptorLegal.nop
  case halt => exact Laws.EncodedDescriptorLegal.halt
  case cfftInit => exact Laws.EncodedDescriptorLegal.cfftInit _
  case fbInit => exact Laws.EncodedDescriptorLegal.fbInit _
  case cfftFwd => exact Laws.EncodedDescriptorLegal.cfftFwd _ _
  case cfftBwd => exact Laws.EncodedDescriptorLegal.cfftBwd _ _
  case imdct => exact Laws.EncodedDescriptorLegal.imdct _ _ _
  case mdct => exact Laws.EncodedDescriptorLegal.mdct _ _ _
  case ifb => exact Laws.EncodedDescriptorLegal.ifb _ _ _ _ _ _
  case ffb => exact Laws.EncodedDescriptorLegal.ffb _ _ _ _ _
  case cmul => exact Laws.EncodedDescriptorLegal.cmul _ _
  case pass2p => exact Laws.EncodedDescriptorLegal.pass2p _ _ _ _ _ _
  case pass2n => exact Laws.EncodedDescriptorLegal.pass2n _ _ _ _ _ _
  case pass4p => exact Laws.EncodedDescriptorLegal.pass4p _ _ _ _ _ _
  case pass4n => exact Laws.EncodedDescriptorLegal.pass4n _ _ _ _ _ _
  case pass3 => exact Laws.EncodedDescriptorLegal.pass3 _ _ _ _ _ _ _
  case pass5 => exact Laws.EncodedDescriptorLegal.pass5 _ _ _ _ _ _ _

theorem exists_ctx_sel {sel : BitVec 2} (h : sel ≠ 3) : ∃ c : Ctx, c.sel = sel := by
  have hall : ∀ sel : BitVec 2, sel ≠ 3 → sel = Ctx.c0.sel ∨ sel = Ctx.c1.sel ∨ sel = Ctx.c2.sel := by decide
  obtain rfl | rfl | rfl := hall sel h
  · exact ⟨.c0, rfl⟩
  · exact ⟨.c1, rfl⟩
  · exact ⟨.c2, rfl⟩

theorem exists_slot_sel {sel : BitVec 2} (h : sel.toNat ≤ 1) : ∃ m : Slot, m.sel = sel := by
  have hall : ∀ sel : BitVec 2, sel.toNat ≤ 1 → Slot.sel (slotOfSel sel) = sel := by decide
  exact ⟨_, hall sel h⟩

theorem exists_encodePass (o : BitVec 8) {sel : BitVec 2} (h : sel ≠ 3) (s : BitVec 1) (iw : BitVec 16) (src dst w3 : Word) :
    ∃ c ido l1, encodePass o c s iw ido l1 src dst = ⟨packW0 o sel s 0 iw, src, dst, w3⟩ := by
  obtain ⟨c, rfl⟩ := exists_ctx_sel h
  have hw3 := ido_append_l1 ⟨0, 0, 0, w3⟩
  exact ⟨c, _, _, congrArg (Descriptor.mk _ _ _) hw3⟩

/-- The conditions of R100 leave for each opcode just the fields that its command fills (R92). -/
theorem exists_encode_of_legal {d : Descriptor} (h : d.legal = true) : ∃ i, encode i = d := by
  have hres : d.reserved = 0 := by
    simp only [Descriptor.legal, Descriptor.reservedZero, Bool.and_eq_true, beq_iff_eq] at h
    obtain ⟨⟨⟨⟨⟨-, hres⟩, -⟩, -⟩, -⟩, -⟩ := h
    exact hres
  have hw0 := (w0_eq_packW0_iff d d.opc d.sel d.b21 d.b20 d.iw).2 ⟨rfl, rfl, rfl, rfl, hres, rfl⟩
  generalize d.opc = o, d.sel = s, d.b21 = a, d.b20 = b, d.iw = w at hw0
  obtain ⟨w0, w1, w2, w3⟩ := d
  obtain rfl : w0 = packW0 o s a b w := hw0
  rw [Laws.legal_packW0] at h
  have hopc : o ∈ knownOpcodes := by
    simp only [Bool.and_eq_true, List.contains_eq_mem, decide_eq_true_eq] at h
    obtain ⟨⟨⟨⟨hopc, -⟩, -⟩, -⟩, -⟩ := h
    exact hopc
  simp only [knownOpcodes, List.mem_cons, List.not_mem_nil, or_false] at hopc
  rcases hopc with rfl | rfl | rfl | rfl | rfl | rfl | rfl | rfl | rfl | rfl | rfl | rfl | rfl | rfl | rfl | rfl | rfl
  all_goals
    simp [knownOpcodes, passOpcodes, and_assoc] at h
  · obtain ⟨rfl, rfl, rfl, rfl, rfl, rfl, rfl⟩ := h
    exact ⟨.nop, rfl⟩
  · obtain ⟨rfl, rfl, rfl, rfl, rfl, rfl, rfl⟩ := h
    exact ⟨.halt, rfl⟩
  · obtain ⟨rfl, rfl, rfl, rfl, rfl, rfl⟩ := h
    exact ⟨.cfftInit w1, rfl⟩
  · obtain ⟨rfl, rfl, rfl, rfl, rfl, rfl⟩ := h
    exact ⟨.fbInit w1, rfl⟩
  · obtain ⟨rfl, rfl, rfl, rfl, rfl, hs⟩ := h
    obtain ⟨c, rfl⟩ := exists_ctx_sel hs
    exact ⟨.cfftFwd c w1, rfl⟩
  · obtain ⟨rfl, rfl, rfl, rfl, rfl, hs⟩ := h
    obtain ⟨c, rfl⟩ := exists_ctx_sel hs
    exact ⟨.cfftBwd c w1, rfl⟩
  · obtain ⟨rfl, rfl, rfl, rfl, hs⟩ := h
    obtain ⟨m, rfl⟩ := exists_slot_sel hs
    exact ⟨.imdct m w1 w2, rfl⟩
  · obtain ⟨rfl, rfl, rfl, rfl, hs⟩ := h
    obtain ⟨m, rfl⟩ := exists_slot_sel hs
    exact ⟨.mdct m w1 w2, rfl⟩
  · obtain rfl := h
    refine ⟨.ifb (windowSequenceOfSel s) (shapeOfBit a) (shapeOfBit b) w1 w2 w3, ?_⟩
    rw [encode, sel_windowSequenceOfSel, bit_shapeOfBit, bit_shapeOfBit]
    rfl
  · obtain ⟨rfl, rfl⟩ := h
    refine ⟨.ffb (windowSequenceOfSel s) (shapeOfBit a) (shapeOfBit b) w1 w2, ?_⟩
    rw [encode, sel_windowSequenceOfSel, bit_shapeOfBit, bit_shapeOfBit]
    rfl
  · obtain ⟨rfl, rfl, rfl, rfl, rfl⟩ := h
    exact ⟨.cmul w1 w2, rfl⟩
  · obtain ⟨rfl, rfl, hs⟩ := h
    obtain ⟨c, ido, l1, hd⟩ := exists_encodePass 0x42 hs 0 w w1 w2 w3
    exact ⟨.pass2p c w ido l1 w1 w2, hd⟩
  · obtain ⟨rfl, rfl, hs⟩ := h
    obtain ⟨c, ido, l1, hd⟩ := exists_encodePass 0x43 hs 0 w w1 w2 w3
    exact ⟨.pass2n c w ido l1 w1 w2, hd⟩
  · obtain ⟨rfl, rfl, hs⟩ := h
    obtain ⟨c, ido, l1, hd⟩ := exists_encodePass 0x44 hs 0 w w1 w2 w3
    exact ⟨.pass4p c w ido l1 w1 w2, hd⟩
  · obtain ⟨rfl, rfl, hs⟩ := h
    obtain ⟨c, ido, l1, hd⟩ := exists_encodePass 0x45 hs 0 w w1 w2 w3
    exact ⟨.pass4n c w ido l1 w1 w2, hd⟩
  · obtain ⟨rfl, hs⟩ := h
    obtain ⟨c, ido, l1, hd⟩ := exists_encodePass 0x46 hs a w w1 w2 w3
    refine ⟨.pass3 c (signOfBit a) w ido l1 w1 w2, ?_⟩
    rw [encode, bit_signOfBit, hd]
    rfl
  · obtain ⟨rfl, hs⟩ := h
    obtain ⟨c, ido, l1, hd⟩ := exists_encodePass 0x47 hs a w w1 w2 w3
    refine ⟨.pass5 c (signOfBit a) w ido l1 w1 w2, ?_⟩
    rw [encode, bit_signOfBit, hd]
    rfl

/-! ### The obligations -/

/-- Settles O1: the bytes are those of the encoding, which its own row of R99 accepts. -/
theorem decodeEncodeRoundTrip : Obligations.DecodeEncodeRoundTrip := by
  intro i rest
  rw [decode_bytes_append, decodeDescriptor_encode]

/-- Settles O2: the row that accepts a descriptor fixes all of it. -/
theorem decodedIsTheEncoding : Obligations.DecodedIsTheEncoding :=
  fun _ _ => encode_of_decodeDescriptor

/-- Settles O3: both say that the descriptor is the encoding of some command. -/
theorem decodesExactlyTheLegal : Obligations.DecodesExactlyTheLegal := by
  intro d
  constructor
  · rintro ⟨i, hi⟩
    rw [← encode_of_decodeDescriptor hi]
    exact legal_encode i
  · intro h
    obtain ⟨i, rfl⟩ := exists_encode_of_legal h
    exact ⟨i, decodeDescriptor_encode i⟩

/-- Settles O4: each word is written out, so the decoder is evaluated on it. -/
theorem writtenOutWordsDecode : Obligations.WrittenOutWordsDecode :=
  ⟨by decide, by decide, by decide, by decide, by decide, by decide, by decide⟩

end Sys2Proof.Proofs
end

section
/-! Construction (R140 to R150, R220, R270): what one candidate of the factor loop appends, and from it the form of a factor list; the
twiddle table stage by stage; the twiddle function under a common factor; and `FB_INIT`. From these the statements on sizes, factor lists,
twiddle tables and the construction of the filter bank. -/

namespace Sys2Proof.Proofs

open Sys2Proof Sys2Proof.Machine

/-! ### The accepted sizes (R146) -/

/-- The 53 sizes of R146. -/
def acceptedSizeList : List Nat :=
  [2, 3, 4, 5, 6, 8, 9, 10, 12, 15, 16, 18, 20, 24, 27, 30, 32, 36, 40, 45, 48, 54, 60, 64, 72, 80, 81, 90,
    96, 108, 120, 128, 135, 144, 160, 162, 180, 192, 216, 240, 243, 256, 270, 288, 320, 324, 360, 384, 405, 432, 480, 486, 512]

/-- The exponents that a product of 2s, 3s and at most one 5 in range can have are below 10, 6 and 2. -/
theorem mem_acceptedSizeList_iff (N : Nat) :
    N ∈ acceptedSizeList ↔ 2 ≤ N ∧ N ≤ 512 ∧ ∃ a b c, c ≤ 1 ∧ N = 2 ^ a * 3 ^ b * 5 ^ c := by
  constructor
  · have hall : ∀ N ∈ acceptedSizeList, 2 ≤ N ∧ N ≤ 512 ∧ ∃ a < 10, ∃ b < 6, ∃ c ≤ 1, N = 2 ^ a * 3 ^ b * 5 ^ c := by
      decide +kernel
    intro h
    obtain ⟨hmin, hmax, a, -, b, -, c, hc, hN⟩ := hall N h
    exact ⟨hmin, hmax, a, b, c, hc, hN⟩
  · rintro ⟨hmin, hmax, a, b, c, hc, rfl⟩
    have ha : a < 10 := by
      rw [← Nat.pow_lt_pow_iff_right (a := 2) (by decide)]
      calc 2 ^ a = 2 ^ a * 1 * 1 := by ring
        _ ≤ 2 ^ a * 3 ^ b * 5 ^ c := by gcongr <;> exact Nat.one_le_pow _ _ (by decide)
        _ < 2 ^ 10 := by omega
    have hb : b < 6 := by
      rw [← Nat.pow_lt_pow_iff_right (a := 3) (by decide)]
      calc 3 ^ b = 1 * 3 ^ b * 1 := by ring
        _ ≤ 2 ^ a * 3 ^ b * 5 ^ c := by gcongr <;> exact Nat.one_le_pow _ _ (by decide)
        _ < 3 ^ 6 := by omega
    have hall : ∀ (a : Fin 10) (b : Fin 6) (c : Fin 2), 2 ≤ 2 ^ a.1 * 3 ^ b.1 * 5 ^ c.1 → 2 ^ a.1 * 3 ^ b.1 * 5 ^ c.1 ≤ 512 →
        2 ^ a.1 * 3 ^ b.1 * 5 ^ c.1 ∈ acceptedSizeList := by decide +kernel
    exact hall ⟨a, ha⟩ ⟨b, hb⟩ ⟨c, by omega⟩ hmin hmax

/-! ### Factor lists (R141, R142) -/

theorem appendFactor_r2 (fac : List Radix) : appendFactor fac .r2 = .r2 :: fac := by
  cases fac <;> simp [appendFactor]

theorem appendFactor_of_ne_r2 {r : Radix} (h : r ≠ .r2) (fac : List Radix) : appendFactor fac r = fac ++ [r] := by
  simp [appendFactor, h]

/-- One candidate's turn: it is found as often as it divides (R141). -/
theorem divideOut_eq (r : Radix) {fuel n : Nat} (fac : List Radix) (hpos : 0 < n) (hfuel : n ≤ fuel) :
    ∃ k q, n = r.toNat ^ k * q ∧ ¬ r.toNat ∣ q ∧
      divideOut fuel r n fac = (q, if r = .r2 then List.replicate k r ++ fac else fac ++ List.replicate k r) := by
  induction fuel generalizing n fac with
  | zero => omega
  | succ fuel ih =>
    rw [divideOut]
    split
    case isTrue hdvd =>
      have hr := two_le_toNat r
      have hn : n = r.toNat * (n / r.toNat) := (Nat.mul_div_cancel' (Nat.dvd_of_mod_eq_zero hdvd)).symm
      have hless : n / r.toNat < n := Nat.div_lt_self hpos hr
      have hposdiv : 0 < n / r.toNat := Nat.pos_of_ne_zero fun h => by rw [h] at hn; omega
      obtain ⟨k, q, hprod, hq, hout⟩ := ih (appendFactor fac r) hposdiv (by omega)
      refine ⟨k + 1, q, by rw [pow_succ', Nat.mul_assoc, ← hprod]; exact hn, hq, hout.trans ?_⟩
      by_cases h2 : r = .r2
      · subst h2
        simp [appendFactor_r2, List.replicate_succ']
      · simp [appendFactor_of_ne_r2 h2, h2, List.replicate_succ]
    case isFalse hdvd =>
      exact ⟨0, n, by simp, fun h => hdvd (Nat.mod_eq_zero_of_dvd h), by simp⟩

/-- The factor list that holds `a` 2s, `b` 3s, `c` 4s and `d` 5s in the order of R142. -/
def orderedFactors (a b c d : Nat) : List Radix :=
  List.replicate a .r2 ++ List.replicate b .r3 ++ List.replicate c .r4 ++ List.replicate d .r5

/-- The factor loop finds the 2s last but one and puts them first; after the 4s at most one is left (R141). -/
theorem factorLoop_eq {N : Nat} (hpos : 0 < N) :
    ∃ a b c d q, a ≤ 1 ∧ N = 2 ^ a * 3 ^ b * 4 ^ c * 5 ^ d * q ∧ factorLoop N = (q, orderedFactors a b c d) := by
  obtain ⟨b, q3, h3, -, hout3⟩ := divideOut_eq .r3 (fuel := N) (n := N) [] hpos le_rfl
  have hpos3 : 0 < q3 := Nat.pos_of_ne_zero fun h => by rw [h] at h3; omega
  have hle3 : q3 ≤ N := Nat.le_of_dvd hpos ⟨_, by rw [Nat.mul_comm]; exact h3⟩
  obtain ⟨c, q4, h4, hndvd4, hout4⟩ := divideOut_eq .r4 (List.replicate b .r3) hpos3 hle3
  have hpos4 : 0 < q4 := Nat.pos_of_ne_zero fun h => by rw [h] at h4; omega
  have hle4 : q4 ≤ N := (Nat.le_of_dvd hpos3 ⟨_, by rw [Nat.mul_comm]; exact h4⟩).trans hle3
  obtain ⟨a, q2, h2, -, hout2⟩ := divideOut_eq .r2 (List.replicate b .r3 ++ List.replicate c .r4) hpos4 hle4
  have hpos2 : 0 < q2 := Nat.pos_of_ne_zero fun h => by rw [h] at h2; omega
  have hle2 : q2 ≤ N := (Nat.le_of_dvd hpos4 ⟨_, by rw [Nat.mul_comm]; exact h2⟩).trans hle4
  obtain ⟨d, q5, h5, -, hout5⟩ :=
    divideOut_eq .r5 (List.replicate a .r2 ++ (List.replicate b .r3 ++ List.replicate c .r4)) hpos2 hle2
  have ha : a ≤ 1 := by
    by_contra hgt
    refine hndvd4 (h2 ▸ Dvd.dvd.mul_right ?_ q2)
    exact pow_dvd_pow 2 (show 2 ≤ a by omega)
  refine ⟨a, b, c, d, q5, ha, ?_, ?_⟩
  · simp only [Radix.toNat] at h3 h4 h2 h5
    rw [h3, h4, h2, h5]
    ring
  · rw [factorLoop, candidates]
    simp only [List.foldl_cons, List.foldl_nil, hout3]
    simp [hout4, hout2, hout5, orderedFactors]

theorem prod_orderedFactors (a b c d : Nat) :
    ((orderedFactors a b c d).map Radix.toNat).prod = 2 ^ a * 3 ^ b * 4 ^ c * 5 ^ d := by
  simp [orderedFactors, Radix.toNat, Nat.mul_assoc]

/-- The factor list of an accepted size (R142). -/
theorem factorize_eq_of_accepted {N : Nat} (h : accepted N = true) :
    ∃ a b c d, a ≤ 1 ∧ d ≤ 1 ∧ N = 2 ^ a * 3 ^ b * 4 ^ c * 5 ^ d ∧ factorize N = orderedFactors a b c d := by
  obtain ⟨hmin, -, hone, h25⟩ := (accepted_iff_tests N).1 h
  obtain ⟨a, b, c, d, q, ha, hN, hout⟩ := factorLoop_eq (Nat.lt_of_lt_of_le (by decide) hmin)
  rw [hout] at hone
  obtain rfl : q = 1 := hone
  rw [Nat.mul_one] at hN
  refine ⟨a, b, c, d, ha, ?_, hN, by rw [factorize, hout]⟩
  by_contra hgt
  exact h25 (hN ▸ (pow_dvd_pow 5 (show 2 ≤ d by omega)).mul_left _)

theorem prod_factorize {N : Nat} (h : accepted N = true) : ((factorize N).map Radix.toNat).prod = N := by
  obtain ⟨a, b, c, d, -, -, hN, hfac⟩ := factorize_eq_of_accepted h
  rw [hfac, prod_orderedFactors, hN]

/-- The number of factors: every one but a single 2 is at least 3, and `3 ^ 6` is out of range. -/
theorem orderedFactors_length_le {a b c d : Nat} (ha : a ≤ 1) (hmax : 2 ^ a * 3 ^ b * 4 ^ c * 5 ^ d ≤ 512) :
    (orderedFactors a b c d).length ≤ 6 := by
  have hcount : b + c + d < 6 := by
    rw [← Nat.pow_lt_pow_iff_right (a := 3) (by decide)]
    calc 3 ^ (b + c + d) = 1 * 3 ^ b * 3 ^ c * 3 ^ d := by rw [pow_add, pow_add, Nat.one_mul]
      _ ≤ 2 ^ a * 3 ^ b * 4 ^ c * 5 ^ d := by
        gcongr
        · exact Nat.one_le_two_pow
        · decide
        · decide
      _ < 3 ^ 6 := by omega
  simp only [orderedFactors, List.length_append, List.length_replicate]
  omega

/-! ### The twiddle table (R148, R149) -/

/-- Element `m` of group `g` in groups of one length laid end to end. -/
theorem elemC_groups {n w g m : Nat} (f : Nat → Nat → Cplx) (hg : g < n) (hm : m < w) (tail : List Cplx) :
    elemC (((List.range n).flatMap fun g => (List.range w).map (f g)) ++ tail) (g * w + m) = f g m := by
  induction n generalizing tail with
  | zero => omega
  | succ n ih =>
    rw [List.range_succ, List.flatMap_append, List.append_assoc]
    obtain hlt | rfl : g < n ∨ g = n := by omega
    · exact ih hlt _
    · have hlen : ((List.range g).flatMap fun g => (List.range w).map (f g)).length = g * w := by simp
      rw [elemC, List.getD_append_right _ _ _ _ (by omega), hlen, Nat.add_sub_cancel_left, List.flatMap_singleton,
        List.getD_append _ _ _ _ (by simpa using hm)]
      exact Laws.elemC_tabulate hm _

theorem twiddleStage_length (N ip l1 ido : Nat) : (twiddleStage N ip l1 ido).length = (ip - 1) * ido := by
  simp [twiddleStage]

theorem twiddleStages_append (N : Nat) (pre suf : List Radix) (l1 : Nat) :
    twiddleStages N (pre ++ suf) l1 = twiddleStages N pre l1 ++ twiddleStages N suf (l1 * (pre.map Radix.toNat).prod) := by
  induction pre generalizing l1 with
  | nil => simp [twiddleStages]
  | cons r pre ih => simp [twiddleStages, ih, Nat.mul_assoc]

/-- The share of a run of factors, from the product `l1` before it to the product after it (R149). -/
theorem twiddleStages_length {N : Nat} (hN : 0 < N) (fac : List Radix) {l1 : Nat} (hdvd : l1 * (fac.map Radix.toNat).prod ∣ N) :
    (twiddleStages N fac l1).length = N / l1 - N / (l1 * (fac.map Radix.toNat).prod) := by
  induction fac generalizing l1 with
  | nil => simp [twiddleStages]
  | cons r fac ih =>
    rw [List.map_cons, List.prod_cons, ← Nat.mul_assoc] at hdvd ⊢
    have hpos : 0 < l1 * r.toNat := Nat.pos_of_dvd_of_pos (dvd_of_mul_right_dvd hdvd) hN
    have hl1 : 0 < l1 := Nat.pos_of_mul_pos_right hpos
    have hquot : N / l1 = r.toNat * (N / (l1 * r.toNat)) := by
      obtain ⟨k, rfl⟩ := dvd_of_mul_right_dvd hdvd
      rw [Nat.mul_div_cancel_left _ hpos, Nat.mul_assoc, Nat.mul_div_cancel_left _ hl1]
    have hle : N / (l1 * r.toNat * (fac.map Radix.toNat).prod) ≤ N / (l1 * r.toNat) :=
      Nat.div_le_div_left (Nat.le_mul_of_pos_right _ (Nat.pos_of_mul_pos_left (Nat.pos_of_dvd_of_pos hdvd hN))) hpos
    rw [twiddleStages, List.length_append, twiddleStage_length, ih hdvd, hquot, Nat.sub_mul, Nat.one_mul]
    have hr : N / (l1 * r.toNat) ≤ r.toNat * (N / (l1 * r.toNat)) := Nat.le_mul_of_pos_left _ (by have := two_le_toNat r; omega)
    omega

/-- The whole table: one entry for each point but one. -/
theorem twiddleFill_length {N : Nat} (hN : 0 < N) {fac : List Radix} (hprod : (fac.map Radix.toNat).prod = N) :
    (twiddleFill N fac).length = N - 1 := by
  rw [twiddleFill, twiddleStages_length hN fac (by rw [Nat.one_mul, hprod]), Nat.one_mul, hprod, Nat.div_one, Nat.div_self hN]

/-- Where entry `m` of group `g + 1` of a stage stands (R148, R149). -/
theorem elemC_twiddleFill {N : Nat} (hN : 0 < N) {pre post : List Radix} {r : Radix}
    (hprod : ((pre ++ r :: post).map Radix.toNat).prod = N) {g m : Nat} (hg : g < r.toNat - 1)
    (hm : m < N / ((pre.map Radix.toNat).prod * r.toNat)) :
    elemC (twiddleFill N (pre ++ r :: post))
        (N - N / (pre.map Radix.toNat).prod + (g * (N / ((pre.map Radix.toNat).prod * r.toNat)) + m)) =
      tw (m * ((g + 1) * (pre.map Radix.toNat).prod) % N) N := by
  have hdvd : 1 * (pre.map Radix.toNat).prod ∣ N := by
    rw [Nat.one_mul, ← hprod, List.map_append, List.prod_append]
    exact dvd_mul_right ..
  have hlen := twiddleStages_length hN pre hdvd
  rw [Nat.one_mul, Nat.div_one] at hlen
  rw [twiddleFill, twiddleStages_append, elemC, List.getD_append_right _ _ _ _ (by omega), hlen, Nat.add_sub_cancel_left,
    Nat.one_mul, twiddleStages, twiddleStage]
  exact elemC_groups _ hg hm _

/-! ### The twiddle function (R270, R271) -/

theorem twoctFraction_mul {c : Nat} (hc : 0 < c) (num den : Nat) : twoctFraction (num * c) (den * c) = twoctFraction num den := by
  rw [twoctFraction, Nat.gcd_mul_right, Nat.mul_div_mul_right _ _ hc, Nat.mul_div_mul_right _ _ hc, twoctFraction]

/-- A common factor of `k` and `N` cancels: from quadrant, rest and octant table alike. -/
theorem tw_mul {c : Nat} (hc : 0 < c) (k N : Nat) : tw (k * c) (N * c) = tw k N := by
  have hquadrant : 4 * (k * c) / (N * c) = 4 * k / N := by rw [← Nat.mul_assoc, Nat.mul_div_mul_right _ _ hc]
  have hnum : 4 * (k * c) % (N * c) = 4 * k % N * c := by rw [← Nat.mul_assoc, Nat.mul_mod_mul_right]
  have hden : 4 * (N * c) = 4 * N * c := by rw [Nat.mul_assoc]
  have hoctant (x : Nat) : 8 * (x * c) ≤ 4 * N * c ↔ 8 * x ≤ 4 * N := by
    rw [← Nat.mul_assoc]
    exact Nat.mul_le_mul_right_iff hc
  have hmirror (x : Nat) : N * c - x * c = (N - x) * c := (Nat.sub_mul ..).symm
  simp only [tw, hquadrant, hnum, hden, hoctant, hmirror, twoctFraction_mul hc]

/-- The value at the fraction `p/q` of a turn, for a size that `q` divides. -/
theorem tw_of_dvd {q N : Nat} (h : q ∣ N) (hN : 1 ≤ N) (p : Nat) : tw (p * (N / q)) N = tw p q := by
  obtain ⟨c, rfl⟩ := h
  have hc : 0 < c := Nat.pos_of_mul_pos_left hN
  have hq : 0 < q := Nat.pos_of_mul_pos_right hN
  rw [Nat.mul_div_cancel_left _ hq, tw_mul hc]

/-! ### `FB_INIT` (R220) -/

theorem factorize_64 : factorize 64 = [.r4, .r4, .r4] := by decide +kernel

theorem factorize_512 : factorize 512 = [.r2, .r4, .r4, .r4, .r4] := by decide +kernel

/-- The one frame length that passes both size checks. -/
theorem exec_fbInit (s : State) : exec (.fbInit 1024) s = .next ((s.mdctBuild .m0).mdctBuild .m1).markFb.advance := by
  have hpass : firstFailure (checks s (.fbInit 1024)) = none := rfl
  rw [Laws.exec_eq, Laws.perform_of_pass hpass]
  rfl

/-- Building again for the size a context is built for writes what is there. -/
theorem build_of_built {c : Context} {N : Nat} (h : c.Built N) : c.build N = c := by
  rw [Context.build, ← h.twiddles, ← h.count, ← h.factors, ← h.size]

/-! ### The obligations -/

/-- Settles O15: the sizes by their prime factors, and the exponents in range give the list. -/
theorem acceptedSizes : Obligations.AcceptedSizes :=
  fun N => ⟨accepted_iff N, (accepted_iff N).trans (mem_acceptedSizeList_iff N).symm⟩

/-- Settles O16: the factor list is `orderedFactors`. -/
theorem factorListProperties : Obligations.FactorListProperties := by
  intro N h
  obtain ⟨hmin, hmax, -⟩ := (accepted_iff_tests N).1 h
  obtain ⟨a, b, c, d, ha, hd, hN, hfac⟩ := factorize_eq_of_accepted h
  refine ⟨prod_factorize h, ?nonempty, ?six, a, b, c, d, ha, hd, hfac⟩
  case nonempty =>
    rw [Nat.one_le_iff_ne_zero, Ne, List.length_eq_zero_iff]
    intro hnil
    have hone := prod_factorize h
    rw [hnil] at hone
    rw [← hone] at hmin
    exact absurd hmin (by decide)
  case six =>
    rw [hfac]
    exact orderedFactors_length_le ha (hN ▸ hmax)

/-- Settles O17: the shares of the stages, with group `j` of the statement the group `j - 1` of the table. -/
theorem twiddleTableLayout : Obligations.TwiddleTableLayout := by
  intro N h
  obtain ⟨hmin, -, -⟩ := (accepted_iff_tests N).1 h
  have hpos : 0 < N := Nat.lt_of_lt_of_le (by decide) hmin
  have hprod := prod_factorize h
  refine ⟨twiddleFill_length hpos hprod, fun pre r post hfac j m hj1 hjr hm => ?_⟩
  rw [hfac] at hprod ⊢
  have hentry := elemC_twiddleFill hpos hprod (g := j - 1) (by omega) hm
  rwa [Nat.sub_add_cancel hj1, ← Nat.add_assoc] at hentry

/-- Settles O18: a common factor cancels, so each exact value is that of its fraction in lowest terms. -/
theorem twiddleDependsOnFraction : Obligations.TwiddleDependsOnFraction := by
  refine ⟨fun k N c _ hc => tw_mul hc k N, fun N hN => ⟨?_, fun h4 => ⟨?_, ?_⟩, fun h2 => ?_, fun h8 => ?_⟩⟩
  · have hturn := tw_of_dvd (one_dvd N) hN 0
    rw [Nat.zero_mul] at hturn
    exact hturn.trans (by decide +kernel)
  · have hquarter := tw_of_dvd h4 hN 1
    rw [Nat.one_mul] at hquarter
    exact hquarter.trans (by decide +kernel)
  · rw [Nat.mul_div_assoc 3 h4]
    exact (tw_of_dvd h4 hN 3).trans (by decide +kernel)
  · have hhalf := tw_of_dvd h2 hN 1
    rw [Nat.one_mul] at hhalf
    exact hhalf.trans (by decide +kernel)
  · have heighth := tw_of_dvd h8 hN 1
    rw [Nat.one_mul] at heighth
    exact heighth.trans (by decide +kernel)

/-- Settles O20: the factor lists of 64 and 512 are computed, the rest is the effect of `FB_INIT`. -/
theorem fbInitCompletes : Obligations.FbInitCompletes := by
  intro s
  rw [exec_fbInit, ← factorize_512, ← factorize_64]
  have h64 : (factorize 64).length = 3 := by rw [factorize_64]; rfl
  have h512 : (factorize 512).length = 5 := by rw [factorize_512]; rfl
  simp only [State.mdctBuild, slotCtx, mdctSize, Context.build, State.setCtx, State.ctx, State.markFb, State.advance,
    Nat.reduceDiv, h64, h512]

/-- Settles O22: both contexts are built for the sizes for which they are built again. -/
theorem fbInitIdempotent : Obligations.FbInitIdempotent := by
  intro s hinv hfb
  obtain ⟨h0, h1⟩ := hinv.filterBank hfb
  rw [exec_fbInit]
  have hb0 : s.cfft0.build (mdctSize .m0 / 4) = s.cfft0 := build_of_built h0
  have hb1 : s.cfft1.build (mdctSize .m1 / 4) = s.cfft1 := build_of_built h1
  simp only [State.mdctBuild, slotCtx, State.setCtx, State.ctx, hb0, hb1, State.markFb, State.advance, ← hfb]

end Sys2Proof.Proofs
end

section
/-! The scratch arrays (R57): a state with them emptied, and that every command and every step has the same outcome from it but for scratch.
Two states differ only in scratch exactly when they are equal so emptied, which makes the statement on two states one on each of them. -/

namespace Sys2Proof.Proofs

open Sys2Proof Sys2Proof.Machine

/-! ### A state without its scratch -/

/-- A context with its work buffer emptied (R43). -/
def emptied (c : Context) : Context := { c with work := [] }

/-- The state with every scratch array of R57 emptied. -/
def unscratched (s : State) : State :=
  { s with
    cfft0 := emptied s.cfft0, cfft1 := emptied s.cfft1, cfft2 := emptied s.cfft2
    z0 := [], z1 := [], transf := [], windowed := [] }

theorem emptied_eq_iff {c d : Context} : emptied c = emptied d ↔ d.N = c.N ∧ d.nf = c.nf ∧ d.fac = c.fac ∧ d.tw = c.tw := by
  simp [emptied, eq_comm]

theorem sameButScratch_iff {s t : State} : SameButScratch s t ↔ unscratched s = unscratched t := by
  constructor
  · rintro ⟨hrest, hctx⟩
    have h0 : emptied s.cfft0 = emptied t.cfft0 := emptied_eq_iff.2 (hctx .c0)
    have h1 : emptied s.cfft1 = emptied t.cfft1 := emptied_eq_iff.2 (hctx .c1)
    have h2 : emptied s.cfft2 = emptied t.cfft2 := emptied_eq_iff.2 (hctx .c2)
    rw [unscratched, h0, h1, h2, hrest]
    rfl
  · intro h
    obtain ⟨⟩ := s
    obtain ⟨⟩ := t
    simp only [unscratched, State.mk.injEq, emptied_eq_iff] at h
    obtain ⟨rfl, rfl, rfl, rfl, rfl, rfl, rfl, rfl, rfl, rfl, rfl, h0, h1, h2, -, -, -, -, rfl, rfl, rfl, rfl, rfl⟩ := h
    refine ⟨rfl, fun c => ?_⟩
    cases c with
    | c0 => exact h0
    | c1 => exact h1
    | c2 => exact h2

/-- An outcome without the scratch of the next state. -/
def unscratchedOutcome : Host.Outcome State Fault Refusal → Host.Outcome State Fault Refusal
  | .next t => .next (unscratched t)
  | .fault e => .fault e
  | .refused e => .refused e

theorem unscratched_idem (s : State) : unscratched (unscratched s) = unscratched s := rfl

/-! ### What reads no scratch -/

theorem ctx_unscratched (s : State) (c : Ctx) : (unscratched s).ctx c = emptied (s.ctx c) := by cases c <;> rfl

theorem ctxValid_unscratched (s : State) (c : Ctx) : (unscratched s).ctxValid c = s.ctxValid c := by cases c <;> rfl

theorem passChecks_unscratched (s : State) (r : Nat) (c : Ctx) (iw ido l1 : BitVec 16) :
    passChecks (unscratched s) r c iw ido l1 = passChecks s r c iw ido l1 := by
  cases c <;> rfl

theorem commandChecks_unscratched (s : State) (i : Instr) : commandChecks (unscratched s) i = commandChecks s i := by
  cases i with
  | cfftFwd c | cfftBwd c => simp only [commandChecks, ctxValid_unscratched]
  | pass2p | pass2n | pass4p | pass4n | pass3 | pass5 => exact passChecks_unscratched ..
  | _ => rfl

theorem regions_unscratched (s : State) (i : Instr) : regions (unscratched s) i = regions s i := by
  cases i with
  | cfftFwd c | cfftBwd c => cases c <;> rfl
  | _ => rfl

theorem checks_unscratched (s : State) (i : Instr) : checks (unscratched s) i = checks s i := by
  rw [checks, commandChecks_unscratched, regions_unscratched]
  rfl

/-! ### What writes scratch -/

theorem unscratched_setWork (s : State) (c : Ctx) (w : List Cplx) : unscratched (s.setWork c w) = unscratched s := by
  cases c <;> rfl

theorem unscratched_setZ (s : State) (m : Slot) (z : List Cplx) : unscratched (s.setZ m z) = unscratched s := by
  cases m <;> rfl

theorem unscratched_setScratch (s : State) (m : Slot) (r : MdctResult) : unscratched (s.setScratch m r) = unscratched s := by
  rw [State.setScratch, unscratched_setWork, unscratched_setZ]

theorem unscratched_setTransf (s : State) (t : List F32) : unscratched (s.setTransf t) = unscratched s := rfl

theorem unscratched_setWindowed (s : State) (w : List F32) : unscratched (s.setWindowed w) = unscratched s := rfl

theorem unscratched_storeWords (s : State) (a : Word) (ws : List Word) :
    unscratched (s.storeWords a ws) = (unscratched s).storeWords a ws := rfl

theorem unscratched_storeComplex (s : State) (a : Word) (zs : List Cplx) :
    unscratched (s.storeComplex a zs) = (unscratched s).storeComplex a zs := rfl

/-! ### Transforms -/

theorem cfftRun_fst_emptied (c : Context) (buf : List Cplx) (sg : Sign) : (cfftRun (emptied c) buf sg).1 = (cfftRun c buf sg).1 :=
  cfftRun_fst_of_work c [] buf sg

theorem imdct_out_emptied (m : Slot) (c : Context) (X : List F32) : (imdct m (emptied c) X).out = (imdct m c X).out :=
  imdct_out_of_work m c [] X

theorem mdct_out_emptied (m : Slot) (c : Context) (x : List F32) : (mdct m (emptied c) x).out = (mdct m c x).out := by
  simp only [mdct, cfftRun_fst_emptied]

theorem shortTransforms_out_emptied (c : Context) (X : List F32) (n : Nat) :
    (shortTransforms (emptied c) X n).out = (shortTransforms c X n).out := by
  induction n with
  | zero => rfl
  | succ n ih =>
    simp only [shortTransforms, imdct_out_of_work, imdct_out_emptied, ih]

theorem ifbTransform_out_emptied (ws : WindowSequence) (c0 c1 : Context) (X : List F32) :
    (ifbTransform ws (emptied c0) (emptied c1) X).out = (ifbTransform ws c0 c1 X).out := by
  cases ws with
  | eightShort => exact shortTransforms_out_emptied c0 X 8
  | onlyLong | longStart | longStop => exact imdct_out_emptied .m1 c1 X

/-! ### Commands -/

theorem cfftEffect_unscratched (c : Ctx) (a : Word) (sg : Sign) (s : State) :
    unscratched (cfftEffect c a sg (unscratched s)) = unscratched (cfftEffect c a sg s) := by
  simp only [cfftEffect, unscratched_setWork, unscratched_storeComplex, ctx_unscratched, cfftRun_fst_emptied, unscratched_idem]
  rfl

theorem passEffect_unscratched (r : Radix) (sg : Sign) (c : Ctx) (iw ido l1 : BitVec 16) (src dst : Word) (s : State) :
    unscratched (passEffect r sg c iw ido l1 src dst (unscratched s)) = unscratched (passEffect r sg c iw ido l1 src dst s) := by
  simp only [passEffect, unscratched_storeComplex, ctx_unscratched, unscratched_idem]
  rfl

/-- The effect of every command, from a state without scratch. -/
theorem effectOf_unscratched (i : Instr) (s : State) :
    unscratched (Laws.effectOf i (unscratched s)) = unscratched (Laws.effectOf i s) := by
  cases i with
  | nop | halt | cfftInit | fbInit | cmul => rfl
  | cfftFwd | cfftBwd => exact cfftEffect_unscratched ..
  | imdct m src dst =>
    simp only [Laws.effectOf, imdctEffect, unscratched_setScratch, unscratched_storeWords, ctx_unscratched, imdct_out_emptied]
    rfl
  | mdct m src dst =>
    simp only [Laws.effectOf, mdctEffect, unscratched_setScratch, unscratched_storeWords, ctx_unscratched, mdct_out_emptied]
    rfl
  | ifb ws sh shp freq time ovl =>
    have hout := ifbTransform_out_emptied ws s.cfft0 s.cfft1 (s.mem.readWords freq.toNat frameLen)
    simp only [Laws.effectOf, ifbEffect, unscratched_setTransf, unscratched_setScratch, unscratched_storeWords, ← hout]
    rfl
  | ffb ws sh shp inp out =>
    have hout := mdct_out_emptied .m1 s.cfft1 (windowedInput sh shp (s.mem.readWords inp.toNat (2 * frameLen)))
    simp only [Laws.effectOf, ffbEffect, unscratched_setWindowed, unscratched_setScratch, unscratched_storeWords, ← hout]
    rfl
  | pass2p | pass2n | pass4p | pass4n | pass3 | pass5 => exact passEffect_unscratched ..

/-- Every command, from a state without scratch: the same fault, or the same effect but for scratch. -/
theorem exec_unscratched (i : Instr) (s : State) :
    unscratchedOutcome (exec i (unscratched s)) = unscratchedOutcome (exec i s) := by
  rw [Laws.exec_eq, Laws.exec_eq, State.perform, State.perform, checks_unscratched]
  cases firstFailure (checks s i) with
  | none =>
    have heffect := congrArg State.advance (effectOf_unscratched i s)
    exact congrArg Host.Outcome.next heffect
  | some e => rfl

/-! ### Steps -/

theorem sampleInputs_unscratched (s : State) : (unscratched s).sampleInputs = unscratched s.sampleInputs := rfl

theorem fetch_unscratched (s : State) : (unscratched s).fetch = s.fetch := rfl

theorem sequencerStep_unscratched (s : State) :
    unscratchedOutcome (unscratched s).sequencerStep = unscratchedOutcome s.sequencerStep := by
  rw [State.sequencerStep, State.sequencerStep, fetch_unscratched]
  cases s.fetch with
  | error e => rfl
  | ok i => exact exec_unscratched i s

theorem writtenRegions_unscratched (s : State) : (unscratched s).writtenRegions = s.writtenRegions := by
  simp only [State.writtenRegions, fetch_unscratched, checks_unscratched, regions_unscratched]

theorem foldl_forgetRegion_unscratched (rs : List Region) (s : State) :
    rs.foldl State.forgetRegion (unscratched s) = unscratched (rs.foldl State.forgetRegion s) := by
  induction rs generalizing s with
  | nil => rfl
  | cons r rs ih => exact ih (s.forgetRegion r)

theorem resetInput_unscratched (s : State) : unscratched (unscratched s).resetInput = unscratched s.resetInput := by
  have hbusy : (unscratched s).busy = s.busy := rfl
  rw [State.resetInput, State.resetInput, writtenRegions_unscratched, foldl_forgetRegion_unscratched, hbusy]
  split <;> rfl

theorem performMemory_unscratched (s : State) (a : Nat) (v : Option Word) :
    unscratchedOutcome ((unscratched s).performMemory a v) = unscratchedOutcome (s.performMemory a v) := by
  have hparams : (unscratched s).params = s.params := rfl
  unfold State.performMemory
  rw [hparams]
  split
  · rfl
  · cases v <;> rfl

theorem writeRegister_unscratched (s : State) (r : Nat) (v : Word) :
    unscratched ((unscratched s).writeRegister r v) = unscratched (s.writeRegister r v) := by
  have hfault : (unscratched s).fault = s.fault := rfl
  unfold State.writeRegister
  split
  · rw [State.writeCtrl, State.writeCtrl, hfault]
    split_ifs <;> rfl
  · rfl
  · rfl

theorem readRegister_unscratched (s : State) (r : Nat) : (unscratched s).readRegister r = s.readRegister r := by
  unfold State.readRegister
  split <;> rfl

theorem performAccess_unscratched (s : State) (a : HostAccess) :
    unscratchedOutcome ((unscratched s).performAccess a) = unscratchedOutcome (s.performAccess a) := by
  cases a with
  | read ap off size =>
    rw [Laws.performAccess_read, Laws.performAccess_read]
    split
    · rfl
    · cases ap with
      | registers => rw [readRegister_unscratched]; rfl
      | memory => exact performMemory_unscratched s _ _
  | write ap off size v =>
    rw [Laws.performAccess_write, Laws.performAccess_write]
    split
    · rfl
    · cases ap with
      | registers => exact congrArg Host.Outcome.next (writeRegister_unscratched s _ v)
      | memory => exact performMemory_unscratched s _ _

theorem hostStep_unscratched (s : State) : unscratchedOutcome (unscratched s).hostStep = unscratchedOutcome s.hostStep := by
  have hqueue : (unscratched s).hostQueue = s.hostQueue := rfl
  rw [State.hostStep, State.hostStep, hqueue]
  cases s.hostQueue with
  | nil => rfl
  | cons a rest => exact performAccess_unscratched { s with hostQueue := rest } a

/-- Every step, from a state without scratch: the same stop, or the same next state but for scratch. -/
theorem step_unscratched (s : State) : unscratchedOutcome (step (unscratched s)) = unscratchedOutcome (step s) := by
  have hreset : (unscratched s).resetAsserted = s.resetAsserted := rfl
  have hbusy : (unscratched s).busy = s.busy := rfl
  rw [step, step, State.turn, State.turn, hreset, hbusy, sampleInputs_unscratched]
  split
  · exact congrArg Host.Outcome.next (resetInput_unscratched s.sampleInputs)
  split
  · exact sequencerStep_unscratched s.sampleInputs
  · exact hostStep_unscratched s.sampleInputs

/-! ### Two states that differ only in scratch -/

/-- Two outcomes: next states that differ only in scratch, or the same stop. -/
def SameOutcome (o o' : Host.Outcome State Fault Refusal) : Prop :=
  (∃ t t', o = .next t ∧ o' = .next t' ∧ SameButScratch t t') ∨ (∃ e, o = .fault e ∧ o' = .fault e) ∨
    ∃ e, o = .refused e ∧ o' = .refused e

theorem sameOutcome_of_unscratched {o o' : Host.Outcome State Fault Refusal} (h : unscratchedOutcome o = unscratchedOutcome o') :
    SameOutcome o o' := by
  cases o <;> cases o' <;> simp only [unscratchedOutcome, Host.Outcome.next.injEq, Host.Outcome.fault.injEq,
    Host.Outcome.refused.injEq, reduceCtorEq] at h
  · exact .inl ⟨_, _, rfl, rfl, sameButScratch_iff.2 h⟩
  · exact .inr (.inl ⟨_, rfl, h ▸ rfl⟩)
  · exact .inr (.inr ⟨_, rfl, h ▸ rfl⟩)

theorem sameOutcome_step {s s' : State} (h : SameButScratch s s') : SameOutcome (step s) (step s') := by
  apply sameOutcome_of_unscratched
  rw [← step_unscratched s, sameButScratch_iff.1 h, step_unscratched]

theorem sameOutcome_exec {s s' : State} (h : SameButScratch s s') (i : Instr) : SameOutcome (exec i s) (exec i s') := by
  apply sameOutcome_of_unscratched
  rw [← exec_unscratched i s, sameButScratch_iff.1 h, exec_unscratched]

/-- Sequences of steps: both go on to states that differ only in scratch, or both stop. -/
theorem sameButScratch_steps (n : Nat) {s s' : State} (h : SameButScratch s s') :
    (∃ t t', steps n s = some t ∧ steps n s' = some t' ∧ SameButScratch t t') ∨ (steps n s = none ∧ steps n s' = none) := by
  induction n generalizing s s' with
  | zero => exact .inl ⟨s, s', rfl, rfl, h⟩
  | succ n ih =>
    rw [steps, steps]
    obtain ⟨t, t', hs, hs', hsame⟩ | ⟨e, hs, hs'⟩ | ⟨e, hs, hs'⟩ := sameOutcome_step h
    · rw [hs, hs']
      exact ih hsame
    · rw [hs, hs']
      exact .inr ⟨rfl, rfl⟩
    · rw [hs, hs']
      exact .inr ⟨rfl, rfl⟩

/-! ### The obligations -/

/-- Settles O23: `cfftRun_fst_of_built`. -/
theorem driverIsItsStages : Obligations.DriverIsItsStages :=
  fun _ _ sg buf h => cfftRun_fst_of_built h buf sg

/-- Settles O51: commands, steps and sequences of steps each have the same outcome; a command never stops the model. -/
theorem scratchIsUnobservable : Obligations.ScratchIsUnobservable := by
  intro s s' hsame
  refine ⟨fun i => ?command, sameOutcome_step hsame, fun n t ht => ?goesOn, fun n hstop => ?stops⟩
  case command =>
    obtain ⟨t, ht⟩ : ∃ t, exec i s = .next t := by
      obtain ⟨code, info, -, ht⟩ | ⟨-, ht⟩ := Laws.exec_cases i s <;> exact ⟨_, ht⟩
    obtain hnext | ⟨e, hs, -⟩ | ⟨e, hs, -⟩ := sameOutcome_exec hsame i
    · exact hnext
    · cases ht.symm.trans hs
    · cases ht.symm.trans hs
  case goesOn =>
    obtain ⟨u, t', hs, hs', htt'⟩ | ⟨hs, -⟩ := sameButScratch_steps n hsame
    · obtain rfl : u = t := Option.some.inj (hs.symm.trans ht)
      exact ⟨t', hs', htt'⟩
    · cases ht.symm.trans hs
  case stops =>
    obtain ⟨u, t', hs, -⟩ | ⟨-, hs'⟩ := sameButScratch_steps n hsame
    · cases hstop.symm.trans hs
    · exact hs'

end Sys2Proof.Proofs
end

section
/-! What the commands do (R69, R111, R190 to R193, R310, R320): the length of a transform, what the effect of each command can change outside
memory and scratch, and which memory it writes. From these the statements on completion, frame and construction of all commands, on the
transforms of a context and on the operand faults of `IFB`. -/

namespace Sys2Proof.Proofs

open Sys2Proof Sys2Proof.Machine

/-! ### Transforms of a constructed context (R190) -/

/-- A factor list in which a 5 stands only last, so that its pass has `ido = 1` (R142, R174). -/
def FiveOnlyLast (fac : List Radix) : Prop := fac.Pairwise fun r _ => r ≠ .r5

theorem fiveOnlyLast_factorize {N : Nat} (h : accepted N = true) : FiveOnlyLast (factorize N) := by
  obtain ⟨a, b, c, d, -, hd, -, hfac⟩ := factorize_eq_of_accepted h
  have hfive : (List.replicate d Radix.r5).Pairwise fun r _ => r ≠ .r5 := by
    obtain rfl | rfl : d = 0 ∨ d = 1 := by omega
    · exact .nil
    · exact List.pairwise_singleton ..
  rw [hfac, FiveOnlyLast, orderedFactors]
  simp [List.pairwise_append, List.pairwise_replicate, hfive]

/-- Every stage leaves an array of the size of the transform (R163, R190). -/
theorem plainStages_length {N : Nat} (hN : 0 < N) (tw : List Cplx) (sg : Sign) {fac : List Radix} {l1 : Nat} (iw : Nat)
    {buf : List Cplx} (hprod : l1 * (fac.map Radix.toNat).prod = N) (hfive : FiveOnlyLast fac) (hbuf : buf.length = N) :
    (plainStages N tw sg fac l1 iw buf).length = N := by
  induction fac generalizing l1 iw buf with
  | nil => exact hbuf
  | cons r rest ih =>
    obtain ⟨hlast, hrest⟩ := List.pairwise_cons.1 hfive
    have hprod : r.toNat * l1 * (rest.map Radix.toNat).prod = N := by
      rw [← hprod, List.map_cons, List.prod_cons, Nat.mul_comm r.toNat, Nat.mul_assoc]
    have hpos : 0 < r.toNat * l1 := Nat.pos_of_mul_pos_right (hprod.symm ▸ hN)
    have hido : N / (r.toNat * l1) = (rest.map Radix.toNat).prod := by rw [← hprod, Nat.mul_div_cancel_left _ hpos]
    rw [plainStages]
    refine ih _ hprod hrest ?_
    rw [Laws.passOf_length, hido, hprod]
    rintro rfl
    have hnil : rest = [] := List.eq_nil_iff_forall_not_mem.2 fun r' hr' => hlast r' hr' rfl
    rw [hido, hnil]
    rfl

/-- The contexts that a command finds valid (R40, R143, R146). -/
theorem ctx_built {s : State} (hinv : s.Inv) {c : Ctx} (hvalid : s.ctxValid c = true) :
    accepted (s.ctx c).N = true ∧ (s.ctx c).Built (s.ctx c).N := by
  have hfixed {x : Context} {N : Nat} (hx : x.Built N) (hN : accepted N = true) : accepted x.N = true ∧ x.Built x.N := by
    rw [hx.size]
    exact ⟨hN, hx⟩
  cases c with
  | c0 =>
    obtain ⟨h0, -⟩ := hinv.filterBank hvalid
    exact hfixed h0 (by decide +kernel)
  | c1 =>
    obtain ⟨-, h1⟩ := hinv.filterBank hvalid
    exact hfixed h1 (by decide +kernel)
  | c2 => exact hinv.user hvalid

theorem transform_length {c : Context} {N : Nat} (hN : accepted N = true) (hbuilt : c.Built N) (sg : Sign) {buf : List Cplx}
    (hbuf : buf.length = N) : (transform c sg buf).length = N := by
  obtain ⟨hmin, -⟩ := (accepted_iff_tests N).1 hN
  rw [transform, hbuilt.size, hbuilt.factors]
  exact plainStages_length (Nat.lt_of_lt_of_le (by decide) hmin) c.tw sg 0 (by rw [Nat.one_mul, prod_factorize hN])
    (fiveOnlyLast_factorize hN) hbuf

/-- The two commands that transform a region in place with a context (R191, R192). -/
def IsCfft (i : Instr) (c : Ctx) (a : Word) (sg : Sign) : Prop :=
  (i = .cfftFwd c a ∧ sg = .neg) ∨ (i = .cfftBwd c a ∧ sg = .pos)

/-- What a region of a context's size holds after a transform of that context. -/
def cfftMemory (s : State) (c : Ctx) (a : Word) (sg : Sign) : Memory :=
  s.mem.writeComplex a.toNat (transform (s.ctx c) sg ((List.range (s.ctx c).N).map (complexAt s.mem a)))

theorem exec_cfft {s : State} {i : Instr} {c : Ctx} {a : Word} {sg : Sign} (hi : IsCfft i c a sg) (hvalid : s.ctxValid c = true)
    {N : Nat} (hbuilt : (s.ctx c).Built N) (hinside : Inside s a (2 * (s.ctx c).N)) :
    ∃ work, exec i s = .next ((s.setWork c work).after (cfftMemory s c a sg)) := by
  have hpass : firstFailure (checks s i) = none := by
    have hown := firstFailure_notReady hvalid c.sel
    rw [Laws.checks_pass]
    obtain ⟨rfl, rfl⟩ | ⟨rfl, rfl⟩ := hi <;>
      exact ⟨hown, Laws.rangeChecks_pass.2 (by simpa [regions, Inside] using hinside), rfl⟩
  have heffect : Laws.effectOf i s = cfftEffect c a sg s := by
    obtain ⟨rfl, rfl⟩ | ⟨rfl, rfl⟩ := hi <;> rfl
  have hrun := cfftRun_fst_of_built hbuilt (s.mem.readComplex a.toNat (s.ctx c).N) sg
  refine ⟨(cfftRun (s.ctx c) (s.mem.readComplex a.toNat (s.ctx c).N) sg).2, ?_⟩
  rw [Laws.exec_eq, Laws.perform_of_pass hpass, heffect, cfftEffect, hrun]
  cases c <;> rfl

/-! ### What an effect changes outside memory and scratch -/

/-- The states differ at most in memory and in the scratch arrays of R57. -/
def MemoryAndScratch (s t : State) : Prop := unscratched t = unscratched { s with mem := t.mem }

theorem cfftEffect_memoryAndScratch (c : Ctx) (a : Word) (sg : Sign) (s : State) : MemoryAndScratch s (cfftEffect c a sg s) := by
  cases c <;> rfl

theorem setScratch_memoryAndScratch (s : State) (dst : Word) (ws : List Word) (m : Slot) (r : MdctResult) :
    MemoryAndScratch s ((s.storeWords dst ws).setScratch m r) := by
  cases m <;> rfl

/-- The effect of every command: three change flags or contexts and no memory, the others change memory and scratch alone. -/
theorem effectOf_cases (i : Instr) (s : State) :
    (i = .halt ∧ Laws.effectOf i s = s.haltRun) ∨
    (∃ n, i = .cfftInit n ∧ Laws.effectOf i s = (s.setCtx .c2 ((s.ctx .c2).build n.toNat)).markCu) ∨
    (∃ fl, i = .fbInit fl ∧ Laws.effectOf i s = ((s.mdctBuild .m0).mdctBuild .m1).markFb) ∨
    MemoryAndScratch s (Laws.effectOf i s) := by
  cases i with
  | halt => exact .inl ⟨rfl, rfl⟩
  | cfftInit n => exact .inr (.inl ⟨n, rfl, rfl⟩)
  | fbInit fl => exact .inr (.inr (.inl ⟨fl, rfl, rfl⟩))
  | cfftFwd c a => exact .inr (.inr (.inr (cfftEffect_memoryAndScratch c a .neg s)))
  | cfftBwd c a => exact .inr (.inr (.inr (cfftEffect_memoryAndScratch c a .pos s)))
  | imdct m src dst => exact .inr (.inr (.inr (setScratch_memoryAndScratch s dst _ m _)))
  | mdct m src dst => exact .inr (.inr (.inr (setScratch_memoryAndScratch s dst _ m _)))
  | ifb ws => exact .inr (.inr (.inr (by cases ws <;> rfl)))
  | nop | ffb | cmul | pass2p | pass2n | pass4p | pass4n | pass3 | pass5 => exact .inr (.inr (.inr rfl))

/-- What no command changes, and what a command that completes leaves as it was (R24, R310, R320). -/
structure EffectFrame (s t : State) : Prop where
  params : t.params = s.params
  cp : t.cp = s.cp
  fault : t.fault = s.fault
  fcode : t.fcode = s.fcode
  fcp : t.fcp = s.fcp
  finfo : t.finfo = s.finfo
  resetIn : t.resetIn = s.resetIn
  hostIn : t.hostIn = s.hostIn
  hostQueue : t.hostQueue = s.hostQueue
  hostReads : t.hostReads = s.hostReads

theorem MemoryAndScratch.effectFrame {s t : State} (h : MemoryAndScratch s t) : EffectFrame s t :=
  { params := (congrArg State.params h :), cp := (congrArg State.cp h :), fault := (congrArg State.fault h :), fcode := (congrArg State.fcode h :)
    fcp := (congrArg State.fcp h :), finfo := (congrArg State.finfo h :), resetIn := (congrArg State.resetIn h :)
    hostIn := (congrArg State.hostIn h :), hostQueue := (congrArg State.hostQueue h :), hostReads := (congrArg State.hostReads h :) }

theorem effectOf_effectFrame (i : Instr) (s : State) : EffectFrame s (Laws.effectOf i s) := by
  obtain ⟨-, he⟩ | ⟨n, -, he⟩ | ⟨fl, -, he⟩ | he := effectOf_cases i s
  · rw [he]; exact ⟨rfl, rfl, rfl, rfl, rfl, rfl, rfl, rfl, rfl, rfl⟩
  · rw [he]; exact ⟨rfl, rfl, rfl, rfl, rfl, rfl, rfl, rfl, rfl, rfl⟩
  · rw [he]; exact ⟨rfl, rfl, rfl, rfl, rfl, rfl, rfl, rfl, rfl, rfl⟩
  · exact MemoryAndScratch.effectFrame he

/-- The same size, factors and twiddle table (R41). -/
def SameConstruction (c d : Context) : Prop := d.N = c.N ∧ d.nf = c.nf ∧ d.fac = c.fac ∧ d.tw = c.tw

theorem sameConstruction_of_emptied {c d : Context} (h : emptied d = emptied c) : SameConstruction c d := emptied_eq_iff.1 h.symm

/-- Only `CFFT_INIT` constructs the user context (R259). -/
theorem effectOf_user {i : Instr} (hi : ∀ n, i ≠ .cfftInit n) (s : State) :
    (Laws.effectOf i s).cuV = s.cuV ∧ SameConstruction s.cfft2 (Laws.effectOf i s).cfft2 := by
  obtain ⟨-, he⟩ | ⟨n, rfl, -⟩ | ⟨fl, -, he⟩ | he := effectOf_cases i s
  · rw [he]; exact ⟨rfl, rfl, rfl, rfl, rfl⟩
  · exact absurd rfl (hi n)
  · rw [he]; exact ⟨rfl, rfl, rfl, rfl, rfl⟩
  · exact ⟨(congrArg State.cuV he :), sameConstruction_of_emptied ((congrArg State.cfft2 he :))⟩

/-- Only `FB_INIT` constructs the filter bank (R259). -/
theorem effectOf_filterBank {i : Instr} (hi : ∀ fl, i ≠ .fbInit fl) (s : State) :
    (Laws.effectOf i s).fbV = s.fbV ∧ SameConstruction s.cfft0 (Laws.effectOf i s).cfft0 ∧
      SameConstruction s.cfft1 (Laws.effectOf i s).cfft1 := by
  obtain ⟨-, he⟩ | ⟨n, -, he⟩ | ⟨fl, rfl, -⟩ | he := effectOf_cases i s
  · rw [he]; exact ⟨rfl, ⟨rfl, rfl, rfl, rfl⟩, rfl, rfl, rfl, rfl⟩
  · rw [he]; exact ⟨rfl, ⟨rfl, rfl, rfl, rfl⟩, rfl, rfl, rfl, rfl⟩
  · exact absurd rfl (hi fl)
  · exact ⟨(congrArg State.fbV he :), sameConstruction_of_emptied ((congrArg State.cfft0 he :)),
      sameConstruction_of_emptied ((congrArg State.cfft1 he :))⟩

/-! ### Which memory an effect writes -/

/-- The memory `m'` is `m` with at most the `out` and `inout` regions among `rs` written. -/
structure WritesOnly (rs : List Region) (m m' : Memory) : Prop where
  frame : ∀ k, (∀ r ∈ rs, r.dir ≠ .input → Outside r.base r.len k) → m'.readByte k = m.readByte k
  wf : m.wf = true → m'.wf = true
  bound : ∀ B, (∀ r ∈ rs, r.base.toNat + r.len ≤ B) → (∀ c ∈ m, c.1 < 4 * B) → ∀ c ∈ m', c.1 < 4 * B

theorem writesOnly_refl (rs : List Region) (m : Memory) : WritesOnly rs m m :=
  ⟨fun _ _ => rfl, id, fun _ _ => id⟩

theorem WritesOnly.trans {rs : List Region} {m m' m'' : Memory} (h : WritesOnly rs m m') (h' : WritesOnly rs m' m'') :
    WritesOnly rs m m'' :=
  ⟨fun k hk => (h'.frame k hk).trans (h.frame k hk), h'.wf ∘ h.wf, fun B hB => h'.bound B hB ∘ h.bound B hB⟩

theorem writesOnly_writeWords {rs : List Region} {r : Region} (hmem : r ∈ rs) (hdir : r.dir ≠ .input) (m : Memory) {ws : List Word}
    (hlen : ws.length = r.len) : WritesOnly rs m (m.writeWords r.base.toNat ws) where
  frame k hk := sameOutside_writeWords m r.base hlen k (hk r hmem hdir)
  wf h := Laws.wf_writeWords h _ _
  bound _ hB hm := Laws.writeWords_bound hm (hlen ▸ hB r hmem)

theorem writesOnly_writeComplex {rs : List Region} {r : Region} (hmem : r ∈ rs) (hdir : r.dir ≠ .input) (m : Memory)
    {zs : List Cplx} (hlen : 2 * zs.length = r.len) : WritesOnly rs m (m.writeComplex r.base.toNat zs) :=
  writesOnly_writeWords hmem hdir m ((Laws.wordsOfComplex_length zs).trans hlen)

/-- `CFFT_FWD` and `CFFT_BWD` write their region, which has the size of the context. -/
theorem cfftEffect_writesOnly {s : State} (hinv : s.Inv) {c : Ctx} {a : Word} (sg : Sign) (hvalid : s.ctxValid c = true) :
    WritesOnly [⟨a, 2 * (s.ctx c).N, .inout⟩] s.mem (cfftEffect c a sg s).mem := by
  obtain ⟨hN, hbuilt⟩ := ctx_built hinv hvalid
  have hmem : (cfftEffect c a sg s).mem =
      s.mem.writeComplex a.toNat (cfftRun (s.ctx c) (s.mem.readComplex a.toNat (s.ctx c).N) sg).1 := by
    cases c <;> rfl
  rw [hmem, cfftRun_fst_of_built hbuilt]
  refine writesOnly_writeComplex (List.mem_singleton_self _) (by simp) s.mem ?_
  rw [transform_length hN hbuilt sg (Laws.readComplex_length ..)]

/-- A PASS command writes its destination. -/
theorem passEffect_writesOnly {s : State} {r : Radix} (sg : Sign) (c : Ctx) (iw ido l1 : BitVec 16) (src dst : Word)
    (h5 : r = .r5 → ido = 1) :
    WritesOnly (passRegions r.toNat ido l1 src dst) s.mem (passEffect r sg c iw ido l1 src dst s).mem := by
  refine writesOnly_writeComplex (r := ⟨dst, 2 * passPoints r.toNat ido l1, .output⟩) (by simp [passRegions]) (by simp) s.mem ?_
  rw [Laws.passOf_length _ _ _ _ _ _ _ fun h => (toNat_eq_one_iff ido).2 (h5 h), passPoints]

/-- Every command that passes its checks writes at most its `out` and `inout` regions (R69, R111). -/
theorem effectOf_writesOnly {s : State} {i : Instr} (hinv : s.Inv) (hpass : firstFailure (checks s i) = none) :
    WritesOnly (regions s i) s.mem (Laws.effectOf i s).mem := by
  obtain ⟨hown, -⟩ := Laws.checks_pass.1 hpass
  rw [Laws.firstFailure_eq_none] at hown
  cases i with
  | nop | halt | cfftInit | fbInit => exact writesOnly_refl _ _
  | cfftFwd c a => exact cfftEffect_writesOnly hinv .neg (by simpa [commandChecks, notReady] using hown)
  | cfftBwd c a => exact cfftEffect_writesOnly hinv .pos (by simpa [commandChecks, notReady] using hown)
  | imdct m src dst =>
    rw [Laws.effectOf, imdctEffect, Laws.setScratch_mem]
    exact writesOnly_writeWords (r := ⟨dst, mdctSize m, .output⟩) (by simp [regions]) (by simp) s.mem (Laws.imdct_out_length ..)
  | mdct m src dst =>
    rw [Laws.effectOf, mdctEffect, Laws.setScratch_mem]
    exact writesOnly_writeWords (r := ⟨dst, mdctSize m / 2, .output⟩) (by simp [regions]) (by simp) s.mem (Laws.mdct_out_length ..)
  | ifb ws sh shp freq time ovl =>
    rw [Laws.effectOf, ifbEffect, Laws.setTransf_mem, Laws.setScratch_mem]
    exact (writesOnly_writeWords (r := ⟨time, frameLen, .output⟩) (by simp [regions]) (by simp) s.mem (Laws.ifbCase_time_length ..)).trans
      (writesOnly_writeWords (r := ⟨ovl, frameLen, .inout⟩) (by simp [regions]) (by simp) _ (Laws.ifbCase_ovl_length ..))
  | ffb ws sh shp inp out =>
    rw [Laws.effectOf, ffbEffect, Laws.setWindowed_mem, Laws.setScratch_mem]
    exact writesOnly_writeWords (r := ⟨out, frameLen, .output⟩) (by simp [regions]) (by simp) s.mem (Laws.mdct_out_length ..)
  | cmul src dst => exact writesOnly_writeWords (r := ⟨dst, 2, .output⟩) (by simp [regions]) (by simp) s.mem rfl
  | pass2p | pass2n => exact passEffect_writesOnly (r := .r2) _ _ _ _ _ _ _ nofun
  | pass4p | pass4n => exact passEffect_writesOnly (r := .r4) _ _ _ _ _ _ _ nofun
  | pass3 => exact passEffect_writesOnly (r := .r3) _ _ _ _ _ _ _ nofun
  | pass5 c sg iw ido l1 src dst =>
    have h5 : ido = 1 := by simpa using hown ⟨(5 : Nat) == 5 && ido != 1, .passArg, ido ++ l1⟩ (by simp [commandChecks, passChecks, passArgChecks])
    exact passEffect_writesOnly (r := .r5) _ _ _ _ _ _ _ fun _ => h5

/-! ### The obligations -/

/-- Settles O7: a fault taken, or the effect with `CP + 4`. -/
theorem commandCompletesOrFaults : Obligations.CommandCompletesOrFaults := by
  intro i s
  obtain ⟨code, info, -, hexec⟩ | ⟨-, hexec⟩ := Laws.exec_cases i s
  · obtain ⟨hlow, hhigh⟩ := Laws.faultNumber_range code
    exact .inr ⟨faultNumber code, info, hlow, hhigh, hexec⟩
  · have hframe := effectOf_effectFrame i s
    exact .inl ⟨_, hexec, congrArg (· + 4) hframe.cp, hframe.fault, hframe.fcode, hframe.fcp, hframe.finfo⟩

/-- Settles O10: the rules of R112 and R113 for the three regions of `IFB`. -/
theorem ifbOperandFaults : Obligations.IfbOperandFaults := by
  intro s ws sh shp freq time ovl hfb
  have hown : firstFailure (commandChecks s (.ifb ws sh shp freq time ovl)) = none := firstFailure_notReady hfb ws.sel
  have hrange (before after : List Region) (r : Region) := firstRegionOutsideFaults (.ifb ws sh shp freq time ovl) s before after r hown
  have hoverlap := firstOverlapFaults (.ifb ws sh shp freq time ovl) s ⟨freq, frameLen, .input⟩ ⟨time, frameLen, .output⟩
    [⟨ovl, frameLen, .inout⟩] hown
  have hall (hf : Inside s freq 1024) (ht : Inside s time 1024) (ho : Inside s ovl 1024) :
      ∀ r ∈ regions s (.ifb ws sh shp freq time ovl), r.base.toNat + r.len ≤ s.params.dmemWords := by
    simpa [regions, frameLen, Inside] using ⟨hf, ht, ho⟩
  refine ⟨fun hf => ?freq, fun hf ht => ?time, fun hf ht ho => ?ovl, fun hf ht ho hft => ?first, fun hf ht ho hft hthird => ?third⟩
  case freq => exact hrange [] [⟨time, frameLen, .output⟩, ⟨ovl, frameLen, .inout⟩] ⟨freq, frameLen, .input⟩ rfl (by simp) (Nat.lt_of_not_le hf)
  case time =>
    exact hrange [⟨freq, frameLen, .input⟩] [⟨ovl, frameLen, .inout⟩] ⟨time, frameLen, .output⟩ rfl (by simpa [frameLen, Inside] using hf)
      (Nat.lt_of_not_le ht)
  case ovl =>
    exact hrange [⟨freq, frameLen, .input⟩, ⟨time, frameLen, .output⟩] [] ⟨ovl, frameLen, .inout⟩ rfl
      (by simpa [frameLen, Inside] using ⟨hf, ht⟩)
      (Nat.lt_of_not_le ho)
  case first =>
    obtain ⟨hpair, -⟩ := hoverlap (hall hf ht ho) rfl
    exact hpair hft
  case third =>
    obtain ⟨-, hrest⟩ := hoverlap (hall hf ht ho) rfl
    obtain ⟨hfo, hto⟩ := hrest _ rfl hft
    by_cases hapart : Apart freq 1024 ovl 1024
    · exact hto hapart fun h => hthird ⟨hapart, h⟩
    · exact hfo hapart

/-- Settles O14: neither command has a check, and their effects are written out. -/
theorem nopAndHaltComplete : Obligations.NopAndHaltComplete := fun _ => ⟨rfl, rfl⟩

/-- Settles O24: the transform as a command, its length and its place in memory. -/
theorem cfftCompletes : Obligations.CfftCompletes := by
  intro s c a hinv hvalid hinside i sg hi
  obtain ⟨hN, hbuilt⟩ := ctx_built hinv hvalid
  obtain ⟨work, hexec⟩ := exec_cfft hi hvalid hbuilt hinside
  have hlen : (transform (s.ctx c) sg ((List.range (s.ctx c).N).map (complexAt s.mem a))).length = (s.ctx c).N :=
    transform_length hN hbuilt sg (by simp)
  refine ⟨cfftMemory s c a sg, work, hexec, ?_, fun q hq => complexAt_writeComplex s.mem a (hlen.symm ▸ hq)⟩
  have hframe := sameOutside_writeComplex s.mem a (transform (s.ctx c) sg ((List.range (s.ctx c).N).map (complexAt s.mem a)))
  rwa [hlen] at hframe

/-- The transform of four ones in a context of size 4, in both directions (R196). -/
theorem transform_four_ones {c : Context} (h : c.Built 4) (sg : Sign) :
    transform c sg (List.replicate 4 ⟨0x3F800000, 0⟩) = [⟨0x40800000, 0⟩, ⟨0, 0⟩, ⟨0, 0⟩, ⟨0, 0⟩] := by
  rw [transform, h.size, h.factors, h.twiddles]
  cases sg <;> decide +kernel

/-- Settles O25: the transform as a command, on four ones. -/
theorem fourPointExample : Obligations.FourPointExample := by
  intro s a hvalid hbuilt hinside hones i hi
  obtain ⟨sg, hcfft⟩ : ∃ sg, IsCfft i .c2 a sg := by
    obtain rfl | rfl := hi
    · exact ⟨.neg, .inl ⟨rfl, rfl⟩⟩
    · exact ⟨.pos, .inr ⟨rfl, rfl⟩⟩
  have hsize : (s.ctx .c2).N = 4 := hbuilt.size
  obtain ⟨work, hexec⟩ := exec_cfft hcfft hvalid hbuilt (by rw [hsize]; exact hinside)
  have hinput : (List.range (s.ctx .c2).N).map (complexAt s.mem a) = List.replicate 4 ⟨0x3F800000, 0⟩ := by
    rw [hsize]
    simp only [List.range_succ, List.range_zero, List.nil_append, List.map_append, List.map_cons, List.map_nil, hones 0 (by omega),
      hones 1 (by omega), hones 2 (by omega), hones 3 (by omega)]
    rfl
  have hout (q : Nat) (hq : q < 4) : complexAt (cfftMemory s .c2 a sg) a q =
      elemC [⟨0x40800000, 0⟩, ⟨0, 0⟩, ⟨0, 0⟩, ⟨0, 0⟩] q := by
    rw [cfftMemory, hinput, transform_four_ones (c := s.ctx .c2) hbuilt]
    exact complexAt_writeComplex s.mem a hq
  exact ⟨_, hexec, hout 0 (by decide), hout 1 (by decide), hout 2 (by decide), hout 3 (by decide)⟩

/-- Settles O46: a fault writes no memory, an effect only its regions. -/
theorem commandsWriteOnlyTheirRegions : Obligations.CommandsWriteOnlyTheirRegions := by
  intro i s t hinv hexec k hk
  obtain ⟨code, info, -, he⟩ | ⟨hpass, he⟩ := Laws.exec_cases i s
  · cases he.symm.trans hexec
    rfl
  · cases he.symm.trans hexec
    exact (effectOf_writesOnly hinv hpass).frame k hk

/-- Settles O47: a fault touches none of these, an effect only as its command constructs. -/
theorem commandsKeepConstruction : Obligations.CommandsKeepConstruction := by
  intro i s t hexec
  obtain ⟨code, info, -, he⟩ | ⟨-, he⟩ := Laws.exec_cases i s
  · cases he.symm.trans hexec
    exact ⟨⟨rfl, rfl, rfl, rfl, rfl⟩, fun _ => ⟨rfl, rfl, rfl, rfl, rfl⟩, fun _ => ⟨rfl, rfl, rfl, rfl, rfl, rfl, rfl, rfl, rfl⟩⟩
  · cases he.symm.trans hexec
    have hframe := effectOf_effectFrame i s
    refine ⟨⟨hframe.params, hframe.resetIn, hframe.hostIn, hframe.hostQueue, hframe.hostReads⟩, fun hi => effectOf_user hi s,
      fun hi => ?_⟩
    obtain ⟨hfb, ⟨hN0, hnf0, hfac0, htw0⟩, h1⟩ := effectOf_filterBank hi s
    exact ⟨hfb, hN0, hnf0, hfac0, htw0, h1⟩

end Sys2Proof.Proofs
end

section
/-! The machine (R20, R30 to R39, R62, R250, R251, R310, R340, R341): what a step that answers a next state has done, said once, and from it
the invariant, the flags that only reset clears, the host's accesses during a run and the end of every run; then the host's accesses and the
reset input while no run is in progress. -/

namespace Sys2Proof.Proofs

open Sys2Proof Sys2Proof.Machine

/-! ### What a step can do -/

theorem sequencerStep_cases {s t : State} (h : s.sequencerStep = .next t) :
    (∃ code info, t = s.raise code info) ∨
      ∃ i, s.fetch = .ok i ∧ firstFailure (checks s i) = none ∧ t = (Laws.effectOf i s).advance := by
  unfold State.sequencerStep at h
  cases hfetch : s.fetch with
  | error e =>
    rw [hfetch] at h
    cases h
    exact .inl ⟨_, _, rfl⟩
  | ok i =>
    rw [hfetch] at h
    obtain ⟨code, info, -, hexec⟩ | ⟨hpass, hexec⟩ := Laws.exec_cases i s
    · cases hexec.symm.trans h
      exact .inl ⟨code, info, rfl⟩
    · cases hexec.symm.trans h
      exact .inr ⟨i, rfl, hpass, rfl⟩

theorem performAccess_cases {s t : State} {a : HostAccess} (h : s.performAccess a = .next t) :
    (∃ ap off v, t = s.answer ap off v) ∨ (∃ r v, a = .write .registers (4 * r) 4 v ∧ t = s.writeRegister r v) ∨
      ∃ w v, w < s.params.dmemWords ∧ t = { s with mem := s.mem.writeWords w [v] } := by
  have hmemory {w : Nat} {v : Option Word} (hm : s.performMemory w v = .next t) :
      (∃ ap off v, t = s.answer ap off v) ∨ ∃ w v, w < s.params.dmemWords ∧ t = { s with mem := s.mem.writeWords w [v] } := by
    obtain ⟨-, he⟩ | ⟨-, -, he⟩ | ⟨v, hw, -, he⟩ := Laws.performMemory_cases s w v
    · cases he.symm.trans hm
    · cases he.symm.trans hm
      exact .inl ⟨_, _, _, rfl⟩
    · cases he.symm.trans hm
      exact .inr ⟨w, v, hw, rfl⟩
  cases a with
  | read ap off size =>
    rw [Laws.performAccess_read] at h
    split at h
    · cases h
    · cases ap with
      | registers =>
        cases h
        exact .inl ⟨_, _, _, rfl⟩
      | memory => exact (hmemory h).imp_right .inr
  | write ap off size v =>
    rw [Laws.performAccess_write] at h
    split at h
    · cases h
    · next hword =>
      cases ap with
      | registers =>
        cases h
        have hoff : off = 4 * (off / 4) := by omega
        have hsize : size = 4 := by omega
        exact .inr (.inl ⟨off / 4, v, by rw [← hoff, hsize], rfl⟩)
      | memory => exact (hmemory h).imp_right .inr

/-- A write of a register: reset, the start of a run, or `CP`, which may be as it was (R30, R32, R34, R38). -/
theorem writeRegister_cases (s : State) (r : Nat) (v : Word) :
    (r = 1 ∧ v.getLsbD 1 = true ∧ s.writeRegister r v = s.resetKeepingDmem) ∨
      (s.fault = false ∧ s.writeRegister r v = s.startRun) ∨ ∃ cp, s.writeRegister r v = { s with cp := cp } := by
  unfold State.writeRegister
  split
  · unfold State.writeCtrl
    split_ifs with hsrst hgo
    · exact .inl ⟨rfl, hsrst, rfl⟩
    · exact .inr (.inl ⟨by simpa using (Bool.and_eq_true_iff.1 hgo).2, rfl⟩)
    · exact .inr (.inr ⟨s.cp, rfl⟩)
  · exact .inr (.inr ⟨v, rfl⟩)
  · exact .inr (.inr ⟨s.cp, rfl⟩)

/-- The host's turn: nothing, or an access that completes. -/
theorem hostStep_cases {s t : State} (h : s.hostStep = .next t) :
    t = s ∨ ∃ a rest, s.hostQueue = a :: rest ∧ State.performAccess { s with hostQueue := rest } a = .next t := by
  unfold State.hostStep at h
  split at h
  · cases h
    exact .inl rfl
  · next a rest hqueue => exact .inr ⟨a, rest, hqueue, h⟩

/-- The three turns (R20, R39, R341). -/
theorem step_cases {s t : State} (h : step s = .next t) :
    (s.resetIn.headD false = true ∧ t = s.sampleInputs.resetInput) ∨
      (s.resetIn.headD false = false ∧ s.busy = true ∧ s.sampleInputs.sequencerStep = .next t) ∨
      (s.resetIn.headD false = false ∧ s.busy = false ∧ s.sampleInputs.hostStep = .next t) := by
  cases hreset : s.resetIn.headD false with
  | true =>
    rw [Laws.step_reset hreset] at h
    cases h
    exact .inl ⟨rfl, rfl⟩
  | false =>
    cases hbusy : s.busy with
    | true => exact .inr (.inl ⟨rfl, rfl, (Laws.step_busy hreset hbusy).symm.trans h⟩)
    | false => exact .inr (.inr ⟨rfl, rfl, (Laws.step_idle hreset hbusy).symm.trans h⟩)

/-! ### The reset input during a run (R341) -/

/-- Forgetting regions changes memory and the counter of free values alone. -/
theorem foldl_forgetRegion_eq (rs : List Region) (s : State) :
    ∃ n, rs.foldl State.forgetRegion s = { s with mem := (rs.foldl State.forgetRegion s).mem, freeCount := n } := by
  induction rs generalizing s with
  | nil => exact ⟨s.freeCount, rfl⟩
  | cons r rs ih =>
    obtain ⟨n, hn⟩ := ih (s.forgetRegion r)
    exact ⟨n, hn⟩

theorem foldl_forgetRegion_writesOnly {all rs : List Region} (hrs : ∀ r ∈ rs, r ∈ all ∧ r.dir ≠ .input) (s : State) :
    WritesOnly all s.mem (rs.foldl State.forgetRegion s).mem := by
  induction rs generalizing s with
  | nil => exact writesOnly_refl _ _
  | cons r rs ih =>
    obtain ⟨hmem, hdir⟩ := hrs r (by simp)
    exact (writesOnly_writeWords hmem hdir s.mem (by simp)).trans (ih (fun q hq => hrs q (by simp [hq])) (s.forgetRegion r))

/-- The regions that a reset input forgets are those of a command that is fetched and passes its checks. -/
theorem writtenRegions_cases (s : State) :
    s.writtenRegions = [] ∨ ∃ i, s.fetch = .ok i ∧ firstFailure (checks s i) = none ∧
      s.writtenRegions = (regions s i).filter fun r => r.dir != .input := by
  unfold State.writtenRegions
  cases s.fetch with
  | error e => exact .inl rfl
  | ok i =>
    cases hfail : firstFailure (checks s i) with
    | some e => exact .inl (by simp [hfail])
    | none => exact .inr ⟨i, rfl, hfail, by simp [hfail]⟩

/-- What the reset input leaves: the reset of a state in which memory is written in the regions of the command in progress alone. -/
theorem resetInput_eq (s : State) :
    ∃ mem n, s.resetInput = State.resetKeepingDmem { s with mem := mem, freeCount := n } ∧
      (WritesOnly [] s.mem mem ∨ ∃ i, s.fetch = .ok i ∧ firstFailure (checks s i) = none ∧ WritesOnly (regions s i) s.mem mem) := by
  unfold State.resetInput
  split
  · obtain ⟨n, hn⟩ := foldl_forgetRegion_eq s.writtenRegions s
    refine ⟨(s.writtenRegions.foldl State.forgetRegion s).mem, n, congrArg State.resetKeepingDmem hn, ?_⟩
    obtain hnone | ⟨i, hfetch, hpass, hregions⟩ := writtenRegions_cases s
    · rw [hnone]
      exact .inl (writesOnly_refl _ _)
    · refine .inr ⟨i, hfetch, hpass, foldl_forgetRegion_writesOnly (fun r hr => ?_) s⟩
      rw [hregions] at hr
      simpa using hr
  · exact ⟨s.mem, s.freeCount, rfl, .inl (writesOnly_refl _ _)⟩

/-! ### The invariant -/

/-- What reset keeps of the invariant: the parameters and the memory. -/
theorem inv_resetKeepingDmem {s : State} (hlegal : s.params.legal = true) (hwf : s.mem.wf = true)
    (hinside : ∀ c ∈ s.mem, c.1 < 4 * s.params.dmemWords) : s.resetKeepingDmem.Inv where
  paramsLegal := hlegal
  memWf := hwf
  memInside := hinside
  oneFlag := ⟨nofun, nofun⟩
  noFault _ := ⟨rfl, rfl, rfl⟩
  faulted := nofun
  user := nofun
  filterBank := nofun

/-- A fault is taken during a run, in which `DONE` is 0 (R310). -/
theorem inv_raise {s : State} (h : s.Inv) (hbusy : s.busy = true) (code : FaultCode) (info : Word) : (s.raise code info).Inv where
  paramsLegal := h.paramsLegal
  memWf := h.memWf
  memInside := h.memInside
  oneFlag := by
    obtain ⟨hdone, -⟩ := h.oneFlag.1 hbusy
    exact ⟨nofun, fun hd => by cases hdone.symm.trans hd⟩
  noFault := nofun
  faulted _ := Laws.faultNumber_range code
  user := h.user
  filterBank := h.filterBank

/-- Only the memory of a sound state is written. -/
theorem inv_setMem {s : State} (h : s.Inv) {mem : Memory} (hwf : mem.wf = true) (hinside : ∀ c ∈ mem, c.1 < 4 * s.params.dmemWords) :
    State.Inv { s with mem := mem } :=
  { paramsLegal := h.paramsLegal, memWf := hwf, memInside := hinside, oneFlag := h.oneFlag, noFault := h.noFault
    faulted := h.faulted, user := h.user, filterBank := h.filterBank }

theorem built_emptied_iff {c : Context} {N : Nat} : (emptied c).Built N ↔ c.Built N :=
  ⟨fun ⟨hN, hnf, hfac, htw⟩ => ⟨hN, hnf, hfac, htw⟩, fun ⟨hN, hnf, hfac, htw⟩ => ⟨hN, hnf, hfac, htw⟩⟩

/-- The invariant says nothing of the scratch arrays. -/
theorem inv_unscratched_iff {s : State} : (unscratched s).Inv ↔ s.Inv := by
  have huser : (accepted (unscratched s).cfft2.N = true ∧ (unscratched s).cfft2.Built (unscratched s).cfft2.N) ↔
      accepted s.cfft2.N = true ∧ s.cfft2.Built s.cfft2.N := and_congr_right fun _ => built_emptied_iff
  have hbank : ((unscratched s).cfft0.Built 64 ∧ (unscratched s).cfft1.Built 512) ↔ s.cfft0.Built 64 ∧ s.cfft1.Built 512 :=
    and_congr built_emptied_iff built_emptied_iff
  exact ⟨fun ⟨hp, hw, hm, ho, hn, hf, hu, hb⟩ => ⟨hp, hw, hm, ho, hn, hf, fun h => huser.1 (hu h), fun h => hbank.1 (hb h)⟩,
    fun ⟨hp, hw, hm, ho, hn, hf, hu, hb⟩ => ⟨hp, hw, hm, ho, hn, hf, fun h => huser.2 (hu h), fun h => hbank.2 (hb h)⟩⟩

theorem inv_of_memoryAndScratch {s t : State} (h : s.Inv) (hst : MemoryAndScratch s t) (hwf : t.mem.wf = true)
    (hinside : ∀ c ∈ t.mem, c.1 < 4 * s.params.dmemWords) : t.Inv := by
  rw [← inv_unscratched_iff, show unscratched t = _ from hst, inv_unscratched_iff]
  exact inv_setMem h hwf hinside

theorem built_build (c : Context) (N : Nat) : (c.build N).Built N := ⟨rfl, rfl, rfl, rfl⟩

/-- The effect of a command that passes its checks, during a run. -/
theorem inv_effectOf {s : State} {i : Instr} (h : s.Inv) (hbusy : s.busy = true) (hpass : firstFailure (checks s i) = none) :
    (Laws.effectOf i s).Inv := by
  obtain ⟨hown, hrange, -⟩ := Laws.checks_pass.1 hpass
  have hwrites := effectOf_writesOnly h hpass
  obtain ⟨-, he⟩ | ⟨n, rfl, he⟩ | ⟨fl, -, he⟩ | he := effectOf_cases i s
  · obtain ⟨-, hfault⟩ := h.oneFlag.1 hbusy
    rw [he]
    exact { h with oneFlag := ⟨nofun, fun _ => hfault⟩ }
  · have haccepted : accepted n.toNat = true := by simpa [Laws.firstFailure_eq_none, commandChecks] using hown
    rw [he]
    exact { h with user := fun _ => ⟨haccepted, built_build _ _⟩ }
  · rw [he]
    exact { h with filterBank := fun _ => ⟨built_build _ _, built_build _ _⟩ }
  · exact inv_of_memoryAndScratch h he (hwrites.wf h.memWf) (hwrites.bound _ (Laws.rangeChecks_pass.1 hrange) h.memInside)

theorem inv_sequencerStep {s t : State} (h : s.Inv) (hbusy : s.busy = true) (hstep : s.sequencerStep = .next t) : t.Inv := by
  obtain ⟨code, info, rfl⟩ | ⟨i, -, hpass, rfl⟩ := sequencerStep_cases hstep
  · exact inv_raise h hbusy code info
  · exact { inv_effectOf h hbusy hpass with }

theorem inv_writeRegister {s : State} (h : s.Inv) (r : Nat) (v : Word) : (s.writeRegister r v).Inv := by
  obtain ⟨-, -, he⟩ | ⟨hfault, he⟩ | ⟨cp, he⟩ := writeRegister_cases s r v
  · rw [he]
    exact inv_resetKeepingDmem h.paramsLegal h.memWf h.memInside
  · rw [he]
    exact { h with oneFlag := ⟨fun _ => ⟨rfl, hfault⟩, nofun⟩ }
  · rw [he]
    exact { h with }

theorem inv_performAccess {s t : State} (h : s.Inv) {a : HostAccess} (hstep : s.performAccess a = .next t) : t.Inv := by
  obtain ⟨ap, off, v, rfl⟩ | ⟨r, v, -, rfl⟩ | ⟨w, v, hw, rfl⟩ := performAccess_cases hstep
  · exact { h with }
  · exact inv_writeRegister h r v
  · exact inv_setMem h (Laws.wf_writeWords h.memWf _ _) (Laws.writeWords_bound h.memInside hw)

theorem inv_resetInput {s : State} (h : s.Inv) : s.resetInput.Inv := by
  obtain ⟨mem, n, he, hwrites⟩ := resetInput_eq s
  rw [he]
  obtain hwrites | ⟨i, -, hpass, hwrites⟩ := hwrites
  · exact inv_resetKeepingDmem h.paramsLegal (hwrites.wf h.memWf) (hwrites.bound _ nofun h.memInside)
  · obtain ⟨-, hrange, -⟩ := Laws.checks_pass.1 hpass
    exact inv_resetKeepingDmem h.paramsLegal (hwrites.wf h.memWf)
      (hwrites.bound _ (Laws.rangeChecks_pass.1 hrange) h.memInside)

theorem inv_sampleInputs {s : State} (h : s.Inv) : s.sampleInputs.Inv := { h with }

/-! ### Fetch (R110, R251, R302, R303) -/

/-- The sixteen bytes at a word address are those of the descriptor there (R63, R90). -/
theorem decode_bytesAt (s : State) (a : Nat) :
    decode ((List.range 16).map fun j => s.mem.readByte (4 * a + j)) = decodeDescriptor (s.descriptorAt a) := by
  simp only [List.range_succ, List.range_zero, List.nil_append, List.cons_append, List.map_cons, List.map_nil, decode,
    State.descriptorAt, Memory.readWord, Nat.mul_add, Nat.add_assoc, Nat.reduceAdd, Nat.reduceMul, Nat.add_zero]

theorem fetch_of_decode {s : State} {i : Instr} (hcp : s.cp.toNat + 3 < s.params.dmemWords)
    (h : decodeDescriptor (s.descriptorAt s.cp.toNat) = .ok i) : s.fetch = .ok i := by
  rw [State.fetch, if_neg (by omega), h]

theorem fetch_outside {s : State} (hcp : s.params.dmemWords ≤ s.cp.toNat + 3) : s.fetch = .error (.addr, s.cp) := by
  rw [State.fetch, if_pos hcp]

theorem fetch_illegal {s : State} (hcp : s.cp.toNat + 3 < s.params.dmemWords) (h : (s.descriptorAt s.cp.toNat).legal = false) :
    s.fetch = .error (.illegal, s.mem.readWord s.cp.toNat) := by
  rw [State.fetch, if_neg (by omega)]
  cases hdecode : decodeDescriptor (s.descriptorAt s.cp.toNat) with
  | error e => rfl
  | ok i =>
    have hlegal := (decodesExactlyTheLegal _).1 ⟨i, hdecode⟩
    cases h.symm.trans hlegal

/-! ### The end of a run (R25) -/

/-- A step of a run without the reset input: the run is over, or `CP` is four words on and still inside `DMEM`. -/
theorem run_step {s : State} (hbusy : s.busy = true) (hreset : s.resetIn = []) :
    ∃ t, step s = .next t ∧ (t.busy = false ∨
      (t.busy = true ∧ t.params = s.params ∧ t.resetIn = [] ∧ s.cp.toNat + 3 < s.params.dmemWords ∧ t.cp = s.cp + 4)) := by
  have hstep := Laws.step_busy (s := s) (by rw [hreset]; rfl) hbusy
  rw [hstep, State.sequencerStep]
  cases hfetch : s.sampleInputs.fetch with
  | error e => exact ⟨_, rfl, .inl rfl⟩
  | ok i =>
    obtain ⟨hcp, -⟩ := Laws.fetch_ok hfetch
    obtain ⟨code, info, -, hexec⟩ | ⟨-, hexec⟩ := Laws.exec_cases i s.sampleInputs
    · exact ⟨_, hexec, .inl rfl⟩
    · have hframe := effectOf_effectFrame i s.sampleInputs
      refine ⟨_, hexec, ?_⟩
      cases hon : (Laws.effectOf i s.sampleInputs).busy with
      | false => exact .inl hon
      | true =>
        refine .inr ⟨hon, hframe.params, hframe.resetIn.trans ?_, hcp, congrArg (· + 4) hframe.cp⟩
        exact congrArg List.tail hreset

theorem steps_of_step {s t : State} (h : step s = .next t) (n : Nat) : steps (n + 1) s = steps n t := by
  simp only [steps, h]

/-- A run whose `CP` has room for at most `m` more commands ends within `m + 1` steps. -/
theorem run_ends (m : Nat) {s : State} (hlegal : s.params.legal = true) (hbusy : s.busy = true) (hreset : s.resetIn = [])
    (hroom : (s.params.dmemWords - s.cp.toNat) / 4 ≤ m) : ∃ n t, n ≤ m + 1 ∧ steps n s = some t ∧ t.busy = false := by
  induction m generalizing s with
  | zero =>
    obtain ⟨t, hstep, hidle | ⟨-, -, -, hcp, -⟩⟩ := run_step hbusy hreset
    · exact ⟨1, t, le_rfl, steps_of_step hstep 0, hidle⟩
    · omega
  | succ m ih =>
    obtain ⟨t, hstep, hidle | ⟨hon, hparams, hreset', hcp, hcp'⟩⟩ := run_step hbusy hreset
    · exact ⟨1, t, by omega, steps_of_step hstep 0, hidle⟩
    · have hmax : s.params.dmemWords ≤ 2 ^ 31 := by
        simp only [Params.legal, Bool.and_eq_true, decide_eq_true_eq] at hlegal
        exact hlegal.2
      have hnowrap : t.cp.toNat = s.cp.toNat + 4 := by
        rw [hcp', BitVec.toNat_add]
        exact Nat.mod_eq_of_lt (by simp; omega)
      obtain ⟨n, u, hn, hsteps, hidle⟩ := ih (hparams ▸ hlegal) hon hreset' (by rw [hparams, hnowrap]; omega)
      exact ⟨n + 1, u, by omega, (steps_of_step hstep n).trans hsteps, hidle⟩

/-! ### Flags that only reset clears (R27, R312) -/

theorem effectOf_keeps_valid (i : Instr) (s : State) :
    (s.fbV = true → (Laws.effectOf i s).fbV = true) ∧ (s.cuV = true → (Laws.effectOf i s).cuV = true) := by
  obtain ⟨-, he⟩ | ⟨n, -, he⟩ | ⟨fl, -, he⟩ | he := effectOf_cases i s
  · rw [he]; exact ⟨id, id⟩
  · rw [he]; exact ⟨id, fun _ => rfl⟩
  · rw [he]; exact ⟨fun _ => rfl, id⟩
  · exact ⟨fun h => (congrArg State.fbV he :).trans h, fun h => (congrArg State.cuV he :).trans h⟩

/-- The state keeps the flags that only reset clears. -/
def KeepsFlags (s t : State) : Prop :=
  (s.fault = true → t.fault = true) ∧ (s.fbV = true → t.fbV = true) ∧ (s.cuV = true → t.cuV = true)

theorem sequencerStep_keepsFlags {s t : State} (h : s.sequencerStep = .next t) : KeepsFlags s t := by
  obtain ⟨code, info, rfl⟩ | ⟨i, -, -, rfl⟩ := sequencerStep_cases h
  · exact ⟨fun _ => rfl, id, id⟩
  · exact ⟨fun hf => (effectOf_effectFrame i s).fault.trans hf, effectOf_keeps_valid i s⟩

theorem performAccess_keepsFlags {s t : State} {a : HostAccess} (h : s.performAccess a = .next t)
    (hsrst : ∀ v, a = .write .registers 4 4 v → v.getLsbD 1 = false) : KeepsFlags s t := by
  obtain ⟨ap, off, v, rfl⟩ | ⟨r, v, ha, rfl⟩ | ⟨w, v, -, rfl⟩ := performAccess_cases h
  · exact ⟨id, id, id⟩
  · obtain ⟨rfl, hv, -⟩ | ⟨-, he⟩ | ⟨cp, he⟩ := writeRegister_cases s r v
    · cases (hsrst v ha).symm.trans hv
    · rw [he]; exact ⟨id, id, id⟩
    · rw [he]; exact ⟨id, id, id⟩
  · exact ⟨id, id, id⟩

/-! ### The host's accesses while no run is in progress (R30 to R38, R62) -/

theorem word_access (r : Nat) : ¬ ((4 : Nat) ≠ 4 ∨ 4 * r % 4 ≠ 0) := by simp

/-- Register `r` stands at byte offset `4 * r` (R30). -/
theorem performAccess_read_register (s : State) (r : Nat) :
    s.performAccess (.read .registers (4 * r) 4) = .next (s.answer .registers (4 * r) (s.readRegister r)) := by
  rw [Laws.performAccess_read, if_neg (word_access r), Nat.mul_div_cancel_left _ (by decide)]

theorem performAccess_write_register (s : State) (r : Nat) (v : Word) :
    s.performAccess (.write .registers (4 * r) 4 v) = .next (s.writeRegister r v) := by
  rw [Laws.performAccess_write, if_neg (word_access r), Nat.mul_div_cancel_left _ (by decide)]

/-- Word `a` of `DMEM` stands at byte offset `4 * a` (R63). -/
theorem performAccess_read_memory (s : State) (a : Nat) :
    s.performAccess (.read .memory (4 * a) 4) = s.performMemory a none := by
  rw [Laws.performAccess_read, if_neg (word_access a), Nat.mul_div_cancel_left _ (by decide)]

theorem performAccess_write_memory (s : State) (a : Nat) (v : Word) :
    s.performAccess (.write .memory (4 * a) 4 v) = s.performMemory a (some v) := by
  rw [Laws.performAccess_write, if_neg (word_access a), Nat.mul_div_cancel_left _ (by decide)]

theorem performMemory_outside {s : State} {a : Nat} (h : s.params.dmemWords ≤ a) (v : Option Word) :
    s.performMemory a v = .fault (.hostOutsideDmem a) := by
  unfold State.performMemory
  exact if_pos h

/-- `STATUS` while no run is in progress: each flag in its bit (R33). -/
theorem statusWord_toNat {s : State} (hidle : s.busy = false) :
    s.statusWord.toNat =
      (if s.done then 2 else 0) + (if s.fault then 4 else 0) + (if s.fbV then 16 else 0) + (if s.cuV then 32 else 0) := by
  rw [State.statusWord, hidle, if_neg Bool.false_ne_true]
  cases s.done <;> cases s.fault <;> cases s.fbV <;> cases s.cuV <;> rfl

theorem readRegister_of_ge {s : State} {r : Nat} (h : 7 ≤ r) : s.readRegister r = 0 := by
  obtain ⟨k, rfl⟩ := Nat.exists_eq_add_of_le' h
  rfl

theorem writeRegister_ignored (s : State) {r : Nat} (h1 : r ≠ 1) (h3 : r ≠ 3) (v : Word) : s.writeRegister r v = s := by
  unfold State.writeRegister
  split
  · exact absurd rfl h1
  · exact absurd rfl h3
  · rfl

/-! ### The obligations -/

/-- Settles O49: the reset input, a step of a run and an access of the host each keep it. -/
theorem invariantKeptByStep : Obligations.InvariantKeptByStep := by
  intro s t hinv hstep
  have hsampled := inv_sampleInputs hinv
  obtain ⟨-, rfl⟩ | ⟨-, hbusy, hseq⟩ | ⟨-, -, hhost⟩ := step_cases hstep
  · exact inv_resetInput hsampled
  · exact inv_sequencerStep hsampled hbusy hseq
  · obtain rfl | ⟨a, rest, -, hperform⟩ := hostStep_cases hhost
    · exact hsampled
    · have hqueued : State.Inv { s.sampleInputs with hostQueue := rest } := { hsampled with }
      exact inv_performAccess hqueued hperform

/-- Settles O48: no flag is set and no byte is listed. -/
theorem invariantAtReset : Obligations.InvariantAtReset :=
  inv_resetKeepingDmem (s := State.reset) rfl rfl nofun

/-- Settles O5: the fetch of the sampled state is that of the bytes at `CP`. -/
theorem stepRunsDecodedCommand : Obligations.StepRunsDecodedCommand := by
  intro s i hbusy hreset hcp hdecode
  rw [decode_bytesAt] at hdecode
  have hfetch : s.sampleInputs.fetch = .ok i := fetch_of_decode hcp hdecode
  rw [Laws.step_busy hreset hbusy, State.sequencerStep, hfetch]

/-- Settles O6: the two ways in which a fetch fails. -/
theorem fetchAndDecodeFaults : Obligations.FetchAndDecodeFaults := by
  intro s hbusy hreset
  rw [Laws.step_busy hreset hbusy]
  refine ⟨fun hcp => ?_, fun hcp hlegal => ?_⟩
  · have hfetch : s.sampleInputs.fetch = .error (.addr, s.cp) := fetch_outside hcp
    rw [State.sequencerStep, hfetch]
    rfl
  · have hfetch : s.sampleInputs.fetch = .error (.illegal, s.mem.readWord s.cp.toNat) := fetch_illegal hcp hlegal
    rw [State.sequencerStep, hfetch]
    rfl

/-- Settles O50: `CP` rises by four words a step and stays inside `DMEM`. -/
theorem everyRunEnds : Obligations.EveryRunEnds := by
  intro s hlegal hbusy hreset
  exact run_ends _ hlegal hbusy hreset (Nat.div_le_div_right (Nat.sub_le _ _))

/-- Settles O57: what the host waits for is what taking the inputs has left. -/
theorem hostIsHeldDuringARun : Obligations.HostIsHeldDuringARun := by
  intro s t hbusy hstep
  have hsampled := Laws.sampleInputs_of_run hbusy
  obtain ⟨-, rfl⟩ | ⟨-, -, hseq⟩ | ⟨-, hidle, -⟩ := step_cases hstep
  · obtain ⟨mem, n, he, -⟩ := resetInput_eq s.sampleInputs
    rw [he, hsampled]
    exact ⟨rfl, rfl, rfl⟩
  · obtain ⟨code, info, rfl⟩ | ⟨i, -, -, rfl⟩ := sequencerStep_cases hseq
    · rw [hsampled]
      exact ⟨rfl, rfl, rfl⟩
    · have hframe := effectOf_effectFrame i s.sampleInputs
      rw [Laws.advance_hostIn, Laws.advance_hostQueue, Laws.advance_hostReads, hframe.hostIn, hframe.hostQueue, hframe.hostReads,
        hsampled]
      exact ⟨rfl, rfl, rfl⟩
  · cases hbusy.symm.trans hidle

/-- Settles O58: the reset of a state in which only the regions of the command in progress are written. -/
theorem resetDuringARun : Obligations.ResetDuringARun := by
  intro s hbusy hreset
  obtain ⟨mem, n, he, hwrites⟩ := resetInput_eq s.sampleInputs
  have hsampled := Laws.sampleInputs_of_run hbusy
  refine ⟨_, Laws.step_reset hreset, ?_⟩
  rw [he]
  refine ⟨rfl, rfl, rfl, rfl, rfl, rfl, rfl, rfl, rfl, congrArg State.hostQueue hsampled, congrArg State.hostReads hsampled,
    fun k hk => ?_⟩
  obtain hwrites | ⟨i, hfetch, -, hwrites⟩ := hwrites
  · exact hwrites.frame k nofun
  · obtain ⟨-, hdecode⟩ := Laws.fetch_ok hfetch
    exact hwrites.frame k (hk i hdecode)

/-- Settles O59: a step of a run sets flags alone, and of the host's accesses only `SRST` clears one. -/
theorem onlyResetClears : Obligations.OnlyResetClears := by
  intro s t hstep hreset hsrst
  obtain ⟨hasserted, -⟩ | ⟨-, -, hseq⟩ | ⟨-, hidle, hhost⟩ := step_cases hstep
  · cases hreset.symm.trans hasserted
  · exact sequencerStep_keepsFlags (s := s.sampleInputs) hseq
  · obtain rfl | ⟨a, rest, hqueue, hperform⟩ := hostStep_cases hhost
    · exact ⟨id, id, id⟩
    · rw [Laws.sampleInputs_of_idle hidle] at hqueue
      exact performAccess_keepsFlags (s := { s.sampleInputs with hostQueue := rest }) hperform fun v ha => hsrst hidle v rest (hqueue.trans (by rw [ha]))

/-- Settles O52: every field is written out. -/
theorem powerOnState : Obligations.PowerOnState :=
  fun _ _ => ⟨rfl, rfl, rfl, rfl, rfl, rfl, rfl, rfl, rfl, rfl, rfl⟩

/-- Settles O53: the access is performed, and `writeCtrl` tests `SRST`, then `GO`. -/
theorem ctrlWrite : Obligations.CtrlWrite := by
  intro s v rest hidle hreset hqueue
  have hstep : step s = .next ((s.leaving rest).writeCtrl v) := Laws.step_access hreset hidle hqueue
  rw [hstep, State.writeCtrl]
  refine ⟨fun hsrst => ?_, fun hsrst hgo hfault => ?_, fun hsrst hneither => ?_⟩
  · rw [if_pos hsrst]
    exact ⟨_, rfl, rfl, rfl, rfl, rfl, rfl, rfl, rfl, rfl, rfl, rfl, rfl, rfl, rfl, rfl, rfl⟩
  · have hstart : (v.getLsbD 0 && !s.fault) = true := by rw [hgo, hfault]; rfl
    exact congrArg Host.Outcome.next ((if_neg (Bool.eq_false_iff.1 hsrst)).trans (if_pos hstart))
  · have hstay : ¬ (v.getLsbD 0 && !s.fault) = true := by
      obtain h | h := hneither
      · rw [h]; exact Bool.false_ne_true
      · rw [h, Bool.not_true, Bool.and_false]; exact Bool.false_ne_true
    exact congrArg Host.Outcome.next ((if_neg (Bool.eq_false_iff.1 hsrst)).trans (if_neg hstay))

/-- Settles O54: the read is answered with the register's value. -/
theorem registerReads : Obligations.RegisterReads := by
  intro s r rest hidle hreset hqueue
  have hstep := Laws.step_access hreset hidle hqueue
  rw [performAccess_read_register] at hstep
  refine ⟨_, hstep, ?_, ?_, ?_, ?_, ?_, ?_, ?_, readRegister_of_ge⟩ <;> rintro rfl
  case refine_3 => exact statusWord_toNat (s := s.leaving rest) hidle
  case refine_5 => exact BitVec.toNat_setWidth_of_le (by decide)
  all_goals rfl

/-- Settles O55: the write of `CP`, and `writeRegister_ignored`. -/
theorem registerWrites : Obligations.RegisterWrites := by
  intro s r v rest hidle hreset hqueue
  have hstep := Laws.step_access hreset hidle hqueue
  rw [performAccess_write_register] at hstep
  refine ⟨?_, fun h1 h3 => hstep.trans (congrArg _ (writeRegister_ignored _ h1 h3 v))⟩
  rintro rfl
  exact hstep

/-- Settles O56: an access to a word inside `DMEM` is performed, one beyond it stops the model, and so does one that is no aligned
word. -/
theorem hostMemoryAccess : Obligations.HostMemoryAccess := by
  intro s a v rest hidle hreset
  have hstep {x : HostAccess} (hqueue : s.outstanding = x :: rest) : step s = (s.leaving rest).performAccess x :=
    Laws.step_access hreset hidle hqueue
  refine ⟨fun hqueue ha => ?read, fun hqueue ha => ?write, fun hqueue ha => ?beyond, fun ap off size hbad hqueue => ?unsupported⟩
  case read =>
    rw [hstep hqueue, performAccess_read_memory]
    exact if_neg (Nat.not_le.2 ha)
  case write =>
    refine ⟨s.mem.writeWords a [v], ?_, Laws.readWord_writeWords_inside s.mem a [v] 0 Nat.one_pos, fun k hk => ?_⟩
    · rw [hstep hqueue, performAccess_write_memory]
      exact if_neg (Nat.not_le.2 ha)
    · exact Laws.readByte_writeWords_outside s.mem a [v] k hk
  case beyond =>
    obtain hqueue | hqueue := hqueue
    · rw [hstep hqueue, performAccess_read_memory]
      exact performMemory_outside (s := s.leaving rest) ha none
    · rw [hstep hqueue, performAccess_write_memory]
      exact performMemory_outside (s := s.leaving rest) ha (some v)
  case unsupported =>
    obtain hqueue | hqueue := hqueue
    · rw [hstep hqueue, Laws.performAccess_read, if_pos hbad]
    · rw [hstep hqueue, Laws.performAccess_write, if_pos hbad]

/-- Settles O60: with no command in progress the reset keeps all of `DMEM`. -/
theorem resetWhileIdle : Obligations.ResetWhileIdle := by
  intro s hidle hreset
  have hsampled := Laws.sampleInputs_of_idle hidle
  have hstep := Laws.step_reset hreset
  rw [Laws.resetInput_idle (s := s.sampleInputs) hidle, hsampled] at hstep
  exact ⟨_, hstep, rfl, rfl, rfl, rfl, rfl, rfl, rfl, rfl, rfl, rfl, rfl, rfl, rfl, rfl, rfl, rfl⟩

end Sys2Proof.Proofs
end

section
/-! The twiddle multiplier as a command and its forms (R130 to R132), the passes of radix 3 and radix 5 (R167, R171), and the first call of
`IFB` (R231). -/

namespace Sys2Proof.Proofs

open Sys2Proof Sys2Proof.Machine

/-! ### `CMUL` (R131) -/

/-- `CMUL` on regions inside `DMEM` that do not intersect runs to its end. -/
theorem exec_cmul {s : State} {src dst : Word} (hsrc : Inside s src 4) (hdst : Inside s dst 2) (hapart : Apart src 4 dst 2) :
    exec (.cmul src dst) s = .next (s.after (s.mem.writeWords dst.toNat (cmulWords s.mem src.toNat))) := by
  have hpass : firstFailure (checks s (.cmul src dst)) = none := firstFailure_checks_of_two_regions rfl rfl hsrc hdst hapart
  rw [Laws.exec_eq, Laws.perform_of_pass hpass]
  rfl

/-! ### The outputs of the radix-3 and the radix-5 butterfly -/

/-- Output `j` of the butterfly `(k, i)` of a radix-3 pass (R167). -/
theorem elemC_passResult_r3 (s : State) (sg : Sign) (c : Ctx) (iw ido l1 : BitVec 16) (src : Word) {k i j : Nat}
    (hk : k < l1.toNat) (hi : i < ido.toNat) (hj : j < 3) :
    elemC (passResult s .r3 sg c iw ido l1 src) (i + ido.toNat * (k + l1.toNat * j)) =
      twiddled sg ido.toNat (s.ctx c).tw iw.toNat i j
        (bfly3 sg (complexAt s.mem src (i + ido.toNat * (3 * k))) (complexAt s.mem src (i + ido.toNat * (3 * k + 1)))
          (complexAt s.mem src (i + ido.toNat * (3 * k + 2))) j) := by
  have hin {j : Nat} (hj : j < 3) := passIn_eq_complexAt s.mem src hk hi hj
  rw [passResult, passOf, pass3, passPoints, Radix.toNat, Laws.elemC_passArray _ hk hi hj, hin (by decide), hin (by decide),
    hin (by decide), Nat.add_zero]

/-- Output `j` of the butterfly `k` of a radix-5 pass, which has `ido = 1` (R171, R174). -/
theorem elemC_passResult_r5 (s : State) (sg : Sign) (c : Ctx) (iw l1 : BitVec 16) (src : Word) {k j : Nat}
    (hk : k < l1.toNat) (hj : j < 5) :
    elemC (passResult s .r5 sg c iw 1 l1 src) (0 + 1 * (k + l1.toNat * j)) =
      bfly5 sg (complexAt s.mem src (5 * k)) (complexAt s.mem src (5 * k + 1)) (complexAt s.mem src (5 * k + 2))
        (complexAt s.mem src (5 * k + 3)) (complexAt s.mem src (5 * k + 4)) j := by
  have hin {j : Nat} (hj : j < 5) : passIn 5 1 (s.mem.readComplex src.toNat (5 * l1.toNat * 1)) k 0 j =
      complexAt s.mem src (5 * k + j) := by
    rw [passIn_eq_complexAt s.mem src hk Nat.one_pos hj, Nat.zero_add, Nat.one_mul]
  rw [passResult, passOf, pass5, passPoints, Radix.toNat, Laws.elemC_passArray _ hk Nat.one_pos hj]
  rw [show (1 : BitVec 16).toNat = 1 from rfl, hin (by decide), hin (by decide), hin (by decide), hin (by decide), hin (by decide),
    Nat.add_zero]

/-! ### The first call of `IFB` (R231) -/

/-- `+0` added to a product: the canonical NaN and every value but `-0` are as they were (R52, R55). -/
theorem zero_fadd_fmul (a b : F32) : fadd 0 (fmul a b) = if fmul a b = 0x80000000 then 0 else fmul a b := by
  obtain hnan | ⟨bits, hle, hmul⟩ := fmul_eq_qnan_or a b
  · rw [hnan]
    decide
  · have hvalue : isNaN (fmul a b) = false := hmul ▸ isNaN_withSign _ hle
    generalize fmul a b = p at hvalue
    by_cases hzero : fval p = 0
    · obtain rfl | rfl := (fval_eq_zero_iff p).1 hzero <;> decide
    · have hne : p ≠ 0x80000000 := fun h => hzero ((fval_eq_zero_iff p).2 (.inr h))
      rw [if_neg hne, zero_fadd (.inl rfl) hvalue hzero]

/-! ### The obligations -/

/-- Settles O34: both words of `cmulWords` in their places. -/
theorem cmulCompletes : Obligations.CmulCompletes := by
  intro s src dst hsrc hdst hapart
  exact ⟨_, exec_cmul hsrc hdst hapart, sameOutside_writeWords s.mem dst rfl, wordAt_writeWords s.mem dst Nat.two_pos,
    wordAt_writeWords s.mem dst Nat.one_lt_two⟩

/-- Settles O35: the outputs of `CM` in the order of each form. -/
theorem rotationForms : Obligations.RotationForms := fun _ _ => ⟨rfl, rfl⟩

/-- Settles O37: `exec_pass_completes` for `Pass3`, then output 0 without and outputs 1 and 2 with their rotations, in each
direction. -/
theorem radixThreePassCompletes : Obligations.RadixThreePassCompletes := by
  intro s c sg iw ido l1 src dst hready
  have hpass : IsPass s (.pass3 c sg iw ido l1 src dst) .r3 sg c iw ido l1 src dst := ⟨rfl, rfl, rfl⟩
  obtain ⟨mem, hexec, hframe, hplace⟩ := exec_pass_completes hpass hready
  refine ⟨mem, hexec, hframe, fun k i hk hi => ?_⟩
  have hout (j : Nat) (hj : j < 3) :=
    (hplace k i j hk hi hj).trans (elemC_passResult_r3 s sg c iw ido l1 src hk hi hj)
  have h0 := hout 0 (by decide)
  have h1 := hout 1 (by decide)
  have h2 := hout 2 (by decide)
  rw [twiddled_zero] at h0
  rw [twiddled_succ, Nat.mul_one, Nat.zero_mul, Nat.add_zero] at h1
  rw [twiddled_succ, Nat.mul_comm l1.toNat, Nat.one_mul] at h2
  cases sg <;> exact ⟨h0, h1, h2⟩

/-- Settles O39: `exec_pass_completes` for `Pass5` with `ido = 1`, then the five outputs without rotation, in each direction. -/
theorem radixFivePassCompletes : Obligations.RadixFivePassCompletes := by
  intro s c sg iw ido l1 src dst hready
  obtain rfl : ido = 1 := hready.five rfl
  have hpass : IsPass s (.pass5 c sg iw 1 l1 src dst) .r5 sg c iw 1 l1 src dst := ⟨rfl, rfl, rfl⟩
  obtain ⟨mem, hexec, hframe, hplace⟩ := exec_pass_completes hpass hready
  have hone : (1 : BitVec 16).toNat = 1 := rfl
  rw [hone, Nat.mul_one] at hframe
  refine ⟨mem, hexec, hframe, fun k hk => ?_⟩
  have hspot (j : Nat) : 0 + (1 : BitVec 16).toNat * (k + l1.toNat * j) = k + j * l1.toNat := by
    rw [hone, Nat.zero_add, Nat.one_mul, Nat.mul_comm]
  have hout (j : Nat) (hj : j < 5) :=
    ((congrArg (complexAt mem dst) (hspot j)).symm.trans (hplace k 0 j hk Nat.one_pos hj)).trans
      (elemC_passResult_r5 s sg c iw l1 src hk hj)
  have h0 := hout 0 (by decide)
  have h1 := hout 1 (by decide)
  have h2 := hout 2 (by decide)
  have h3 := hout 3 (by decide)
  have h4 := hout 4 (by decide)
  rw [Nat.zero_mul, Nat.add_zero] at h0
  rw [Nat.one_mul] at h1
  cases sg <;> exact ⟨h0, h1, h2, h3, h4⟩

/-- Settles O32: the samples of OnlyLong, with `+0` for every sample of the old overlap. -/
theorem firstCallProperty : Obligations.FirstCallProperty := by
  intro s t sh shp freq time ovl hready hzero hnext i hi
  obtain ⟨mem, work, z, tr, O, hexec, -, -, hold, htime, hovl⟩ := exec_ifb_completes hready .onlyLong sh shp
  cases hexec.symm.trans hnext
  refine ⟨?_, hovl i hi⟩
  have hsample : wordAt mem time i = fadd (elemF O i) (fmul (elemF tr i) (elemF (wlong shp) i)) := htime i hi
  rw [hold i hi, hzero i hi, zero_fadd_fmul] at hsample
  exact hsample

end Sys2Proof.Proofs
end

section
/-! Rounding to nearest (R51, R53, R54): the values of consecutive bit patterns rise, two neighbours enclose the exact magnitude, and the one
that `roundBits` takes is the nearest of all, the even one in a tie. From this the statements on sums and products; then the identities of the
arithmetic and of the twiddle multiplier. -/

namespace Sys2Proof.Proofs

open Sys2Proof Sys2Proof.Machine

/-! ### The value of the magnitude bits -/

/-- The magnitude, in units of `2^-149`, that the bits 30:0 stand for; past the infinity it goes on as if there were larger exponents. -/
def bitsValue (b : Nat) : Nat := if b / 2 ^ 23 = 0 then b % 2 ^ 23 else (2 ^ 23 + b % 2 ^ 23) * 2 ^ (b / 2 ^ 23 - 1)

theorem fmag_eq_bitsValue (a : F32) : fmag a = bitsValue (magBits a) := by
  have hexp : magBits a / 2 ^ 23 = fexp a := by unfold magBits fexp; omega
  have hfrac : magBits a % 2 ^ 23 = ffrac a := by unfold magBits ffrac; omega
  rw [fmag, bitsValue, hexp, hfrac]

/-- The bits of a significand `m` at the place `e`; the carry `m = 2^24` is the next exponent. -/
theorem bitsValue_place {e m : Nat} (hm : m ≤ 2 ^ 24) (h : e = 0 ∨ 2 ^ 23 ≤ m) : bitsValue (e * 2 ^ 23 + m) = m * 2 ^ e := by
  obtain hsub | hnormal | rfl : m < 2 ^ 23 ∨ (2 ^ 23 ≤ m ∧ m < 2 ^ 24) ∨ m = 2 ^ 24 := by omega
  · obtain rfl : e = 0 := h.resolve_right (by omega)
    rw [bitsValue, if_pos (by omega), pow_zero, Nat.mul_one]
    omega
  · have hexp : (e * 2 ^ 23 + m) / 2 ^ 23 = e + 1 := by omega
    have hfrac : 2 ^ 23 + (e * 2 ^ 23 + m) % 2 ^ 23 = m := by omega
    rw [bitsValue, hexp, if_neg (by omega), hfrac, Nat.add_sub_cancel]
  · have hexp : (e * 2 ^ 23 + 2 ^ 24) / 2 ^ 23 = e + 2 := by omega
    have hfrac : 2 ^ 23 + (e * 2 ^ 23 + 2 ^ 24) % 2 ^ 23 = 2 ^ 23 := by omega
    rw [bitsValue, hexp, if_neg (by omega), hfrac, show e + 2 - 1 = e + 1 by omega, pow_succ]
    ring

/-- Larger bits stand for larger magnitudes. -/
theorem bitsValue_strictMono : StrictMono bitsValue := by
  refine strictMono_nat_of_lt_succ fun b => ?_
  obtain ⟨e, m, hm, hplace, rfl⟩ : ∃ e m, m < 2 ^ 24 ∧ (e = 0 ∨ 2 ^ 23 ≤ m) ∧ b = e * 2 ^ 23 + m :=
    ⟨b / 2 ^ 23 - 1, b - (b / 2 ^ 23 - 1) * 2 ^ 23, by omega, by omega, by omega⟩
  rw [Nat.add_assoc, bitsValue_place hm.le hplace, bitsValue_place hm (by omega)]
  exact Nat.mul_lt_mul_of_pos_right (Nat.lt_succ_self m) (Nat.two_pow_pos e)

/-! ### The nearest bits -/

/-- The place of the last bit kept of `n * 2^(-149-k)` (R51, R54). -/
def lastPlace (k n : Nat) : Nat := max k (Nat.log2 n - 23)

/-- Whether the bits below the last place round up: more than half, or half and an odd significand (R51). -/
def roundsUp (k n : Nat) : Bool :=
  decide (2 ^ lastPlace k n < 2 * (n % 2 ^ lastPlace k n)) ||
    (2 * (n % 2 ^ lastPlace k n) == 2 ^ lastPlace k n && n / 2 ^ lastPlace k n % 2 == 1)

/-- The bits of the exact magnitude cut off at the last place. -/
def lowerBits (k n : Nat) : Nat := (lastPlace k n - k) * 2 ^ 23 + n / 2 ^ lastPlace k n

/-- `roundBits` before it is cut off at infinity. -/
def nearestBits (k n : Nat) : Nat := if roundsUp k n then lowerBits k n + 1 else lowerBits k n

theorem roundBits_eq_min (k n : Nat) : roundBits k n = min infBits (nearestBits k n) := by
  obtain rfl | hn := eq_or_ne n 0
  · have hlow : lowerBits k 0 = 0 := by simp [lowerBits, lastPlace]
    have hup : roundsUp k 0 = false := by simp [roundsUp]
    rw [nearestBits, hup, hlow, roundBits_zero]
    simp
  · rw [roundBits, if_neg hn, nearestBits, lowerBits, roundsUp, lastPlace]
    dsimp only
    split
    · rw [Nat.add_assoc]
    · rfl

theorem significand_bounds (k n : Nat) :
    n / 2 ^ lastPlace k n < 2 ^ 24 ∧ (lastPlace k n = k ∨ 2 ^ 23 ≤ n / 2 ^ lastPlace k n) := by
  have hlow : Nat.log2 n - 23 ≤ lastPlace k n := le_max_right ..
  constructor
  · rw [Nat.div_lt_iff_lt_mul (Nat.two_pow_pos _), ← pow_add]
    exact Nat.lt_log2_self.trans_le (Nat.pow_le_pow_right Nat.two_pos (by omega))
  · obtain hk | ⟨hq, hlarge⟩ : lastPlace k n = k ∨ (lastPlace k n = Nat.log2 n - 23 ∧ 23 < Nat.log2 n) := by
      unfold lastPlace
      omega
    · exact .inl hk
    · refine .inr ?_
      rw [Nat.le_div_iff_mul_le (Nat.two_pow_pos _), ← pow_add, hq, show 23 + (Nat.log2 n - 23) = Nat.log2 n by omega]
      exact Nat.log2_self_le (by rintro rfl; simp at hlarge)

/-- The lower bits and the next ones stand for the two multiples of the last place that enclose the exact magnitude. -/
theorem bitsValue_neighbours (k n : Nat) :
    bitsValue (lowerBits k n) * 2 ^ k = n / 2 ^ lastPlace k n * 2 ^ lastPlace k n ∧
      bitsValue (lowerBits k n + 1) * 2 ^ k = (n / 2 ^ lastPlace k n + 1) * 2 ^ lastPlace k n := by
  obtain ⟨hlt, hplace⟩ := significand_bounds k n
  have hk : lastPlace k n = lastPlace k n - k + k := (Nat.sub_add_cancel (le_max_left ..)).symm
  have hpow : 2 ^ lastPlace k n = 2 ^ (lastPlace k n - k) * 2 ^ k := by rw [← pow_add, ← hk]
  constructor
  · rw [lowerBits, bitsValue_place hlt.le (by omega), Nat.mul_assoc, ← hpow]
  · rw [lowerBits, Nat.add_assoc, bitsValue_place hlt (by omega), Nat.mul_assoc, ← hpow]

theorem lowerBits_mod_two (k n : Nat) : lowerBits k n % 2 = n / 2 ^ lastPlace k n % 2 := by
  unfold lowerBits
  omega

/-- The rounded bits are as near to the exact magnitude as any others, and even where others with another value are as near. -/
theorem nearestBits_nearest (k n b : Nat) :
    ((bitsValue (nearestBits k n) * 2 ^ k : Nat) - n : Int).natAbs ≤ ((bitsValue b * 2 ^ k : Nat) - n : Int).natAbs ∧
      (((bitsValue (nearestBits k n) * 2 ^ k : Nat) - n : Int).natAbs = ((bitsValue b * 2 ^ k : Nat) - n : Int).natAbs →
        bitsValue b * 2 ^ k ≠ bitsValue (nearestBits k n) * 2 ^ k → nearestBits k n % 2 = 0) := by
  obtain ⟨hlow, hhigh⟩ := bitsValue_neighbours k n
  have hexact := Nat.div_add_mod' n (2 ^ lastPlace k n)
  have hrest := Nat.mod_lt n (Nat.two_pow_pos (lastPlace k n))
  have hparity := lowerBits_mod_two k n
  have hother : bitsValue b * 2 ^ k ≤ bitsValue (lowerBits k n) * 2 ^ k ∨
      bitsValue (lowerBits k n + 1) * 2 ^ k ≤ bitsValue b * 2 ^ k := by
    obtain h | h := Nat.lt_or_ge (lowerBits k n) b
    · exact .inr (Nat.mul_le_mul_right _ (bitsValue_strictMono.monotone h))
    · exact .inl (Nat.mul_le_mul_right _ (bitsValue_strictMono.monotone h))
  have hup : roundsUp k n = true ↔ 2 ^ lastPlace k n < 2 * (n % 2 ^ lastPlace k n) ∨
      (2 * (n % 2 ^ lastPlace k n) = 2 ^ lastPlace k n ∧ n / 2 ^ lastPlace k n % 2 = 1) := by
    simp [roundsUp]
  rw [Nat.add_mul, Nat.one_mul, ← hlow] at hhigh
  rw [← hlow] at hexact
  have hchoice : (roundsUp k n = true ∧ bitsValue (nearestBits k n) * 2 ^ k = bitsValue (lowerBits k n + 1) * 2 ^ k ∧
      nearestBits k n % 2 = (lowerBits k n + 1) % 2) ∨ (¬roundsUp k n = true ∧
      bitsValue (nearestBits k n) * 2 ^ k = bitsValue (lowerBits k n) * 2 ^ k ∧ nearestBits k n % 2 = lowerBits k n % 2) := by
    rw [nearestBits]
    split
    next h => exact .inl ⟨h, rfl, rfl⟩
    next h => exact .inr ⟨h, rfl, rfl⟩
  rw [hup] at hchoice
  generalize bitsValue (nearestBits k n) * 2 ^ k = nearest at *
  generalize bitsValue (lowerBits k n) * 2 ^ k = lower at *
  generalize bitsValue (lowerBits k n + 1) * 2 ^ k = upper at *
  generalize bitsValue b * 2 ^ k = other at *
  omega

/-- The words below infinity are those whose exact magnitude is below half a unit of the last place beyond the largest finite one (R53). -/
theorem infBits_le_nearestBits_iff (k n : Nat) : infBits ≤ nearestBits k n ↔ (2 ^ 25 - 1) * 2 ^ (252 + k) ≤ n := by
  have hinf : bitsValue infBits * 2 ^ k = 2 ^ 25 * 2 ^ (252 + k) := by
    rw [show infBits = 253 * 2 ^ 23 + 2 ^ 24 by decide, bitsValue_place le_rfl (.inr (by decide)), pow_add]
    ring
  have hlast : bitsValue (infBits - 1) * 2 ^ k = (2 ^ 25 - 2) * 2 ^ (252 + k) := by
    rw [show infBits - 1 = 253 * 2 ^ 23 + (2 ^ 24 - 1) by decide, bitsValue_place (by decide) (.inr (by decide)), pow_add]
    ring
  have hodd : (infBits - 1) % 2 = 1 := by decide
  obtain ⟨hnearInf, htieInf⟩ := nearestBits_nearest k n infBits
  obtain ⟨hnearLast, -⟩ := nearestBits_nearest k n (infBits - 1)
  have hunit : 0 < 2 ^ (252 + k) := Nat.two_pow_pos _
  have hmono : ∀ {b c : Nat}, b ≤ c → bitsValue b * 2 ^ k ≤ bitsValue c * 2 ^ k := fun h =>
    Nat.mul_le_mul_right _ (bitsValue_strictMono.monotone h)
  rw [hinf] at hnearInf htieInf
  rw [hlast] at hnearLast
  constructor
  · intro h
    have hvalue := hmono h
    rw [hinf] at hvalue
    generalize 2 ^ (252 + k) = unit at *
    omega
  · intro h
    by_contra! hbelow
    obtain heq | hlt : nearestBits k n = infBits - 1 ∨ nearestBits k n < infBits - 1 := by omega
    · rw [heq, hlast] at hnearInf htieInf
      generalize 2 ^ (252 + k) = unit at *
      omega
    · have hvalue : bitsValue (nearestBits k n) * 2 ^ k < (2 ^ 25 - 2) * 2 ^ (252 + k) :=
        hlast ▸ Nat.mul_lt_mul_of_pos_right (bitsValue_strictMono hlt) (Nat.two_pow_pos k)
      generalize 2 ^ (252 + k) = unit at *
      omega

/-! ### The rounded word -/

@[simp] theorem fsign_withSign {bits : Nat} (s : Bool) (h : bits < 2 ^ 31) : fsign (withSign s bits) = s := by
  rw [fsign, BitVec.msb_eq_decide, toNat_withSign s h]
  cases s with
  | false => simpa using h
  | true => simp

theorem fval_eq_bitsValue (a : F32) : fval a = if fsign a then -(bitsValue (magBits a) : Int) else (bitsValue (magBits a) : Int) := by
  rw [fval, fmag_eq_bitsValue]

/-- A magnitude `|x| * 2^(-149-k)` rounded and signed as `x` is the infinity of that sign on overflow, else the finite word nearest to `x`,
the even one in a tie. -/
def RoundsToNearest (k : Nat) (x : Int) (r : F32) : Prop :=
  (((2 ^ 25 - 1) * 2 ^ (252 + k) : Int) ≤ |x| → r = if 0 < x then 0x7F800000 else 0xFF800000) ∧
    (|x| < ((2 ^ 25 - 1) * 2 ^ (252 + k) : Int) → isFinite r = true ∧
      ∀ w : F32, isFinite w = true → |fval r * 2 ^ k - x| ≤ |fval w * 2 ^ k - x| ∧
        (|fval r * 2 ^ k - x| = |fval w * 2 ^ k - x| → fval w ≠ fval r → r.toNat % 2 = 0))

theorem overflow_iff (k : Nat) (x : Int) :
    ((2 ^ 25 - 1) * 2 ^ (252 + k) : Int) ≤ |x| ↔ infBits ≤ nearestBits k x.natAbs := by
  rw [infBits_le_nearestBits_iff, Int.abs_eq_natAbs, ← Int.ofNat_le]
  push_cast
  rfl

/-- Below overflow the signed nearest bits are as near to `x` as any finite word, and even in a tie with another value. -/
theorem withSign_nearestBits_nearest {k : Nat} {x : Int} {s : Bool} (hs : x ≠ 0 → s = decide (x < 0))
    (hfin : nearestBits k x.natAbs < infBits) (w : F32) :
    let r := withSign s (nearestBits k x.natAbs)
    |fval r * 2 ^ k - x| ≤ |fval w * 2 ^ k - x| ∧
      (|fval r * 2 ^ k - x| = |fval w * 2 ^ k - x| → fval w ≠ fval r → r.toNat % 2 = 0) := by
  intro r
  have hbits : nearestBits k x.natAbs < 2 ^ 31 := hfin.trans (by decide)
  obtain ⟨hnear, htie⟩ := nearestBits_nearest k x.natAbs (magBits w)
  obtain ⟨hzero, -⟩ := nearestBits_nearest k x.natAbs 0
  have hparity : r.toNat % 2 = nearestBits k x.natAbs % 2 := by
    rw [toNat_withSign s hbits]
    cases s
    · rfl
    · rw [if_pos rfl]
      omega
  have hne : fval w ≠ fval r → fval w * 2 ^ k ≠ fval r * 2 ^ k := fun h =>
    (mul_left_injective₀ (by positivity : (2 ^ k : Int) ≠ 0)).ne h
  have hr : fval r * 2 ^ k = if s then -((bitsValue (nearestBits k x.natAbs) * 2 ^ k : Nat) : Int)
      else ((bitsValue (nearestBits k x.natAbs) * 2 ^ k : Nat) : Int) := by
    rw [fval_eq_bitsValue, fsign_withSign s hbits, magBits_withSign s hbits]
    cases s <;> simp
  have hw : fval w * 2 ^ k = ((bitsValue (magBits w) * 2 ^ k : Nat) : Int) ∨
      fval w * 2 ^ k = -((bitsValue (magBits w) * 2 ^ k : Nat) : Int) := by
    rw [fval_eq_bitsValue]
    cases fsign w <;> simp
  rw [show bitsValue 0 = 0 from rfl, Nat.zero_mul] at hzero
  rw [hparity, Int.abs_eq_natAbs, Int.abs_eq_natAbs]
  generalize fval w * 2 ^ k = valueW at *
  generalize fval r * 2 ^ k = valueR at *
  generalize bitsValue (magBits w) * 2 ^ k = magW at *
  generalize bitsValue (nearestBits k x.natAbs) * 2 ^ k = magR at *
  have hsign : if s then x ≤ 0 else 0 ≤ x := by
    obtain rfl | hx := eq_or_ne x 0
    · simp
    · obtain hneg | hpos := Int.lt_or_gt_of_ne hx
      · simp [hs hx, hneg, hneg.le]
      · simp [hs hx, hpos.le]
  split at hr
  next h =>
    rw [if_pos h] at hsign
    omega
  next h =>
    rw [if_neg h] at hsign
    omega

theorem withSign_roundBits_roundsToNearest {k : Nat} {x : Int} {s : Bool} (hs : x ≠ 0 → s = decide (x < 0)) :
    RoundsToNearest k x (withSign s (roundBits k x.natAbs)) := by
  rw [roundBits_eq_min]
  constructor
  · intro hover
    rw [overflow_iff] at hover
    have hx : x ≠ 0 := by
      rintro rfl
      rw [infBits_le_nearestBits_iff] at hover
      simp at hover
    rw [min_eq_left hover, hs hx]
    obtain hneg | hpos := Int.lt_or_gt_of_ne hx
    · rw [decide_eq_true hneg, if_neg (by omega)]
      decide
    · rw [decide_eq_false (by omega), if_pos hpos]
      decide
  · intro hbelow
    rw [← not_le, overflow_iff, not_le] at hbelow
    rw [min_eq_right hbelow.le]
    refine ⟨?_, fun w _ => withSign_nearestBits_nearest hs hbelow w⟩
    rw [isFinite_iff, magBits_withSign s (hbelow.trans (by decide))]
    exact hbelow

/-- The exact product of two finite words has their magnitudes' product and, where it is not zero, the exclusive or of their signs. -/
theorem sign_mul_fval {a b : F32} (h : fval a * fval b ≠ 0) : (fsign a != fsign b) = decide (fval a * fval b < 0) := by
  obtain ⟨ha, hb⟩ := mul_ne_zero_iff.1 h
  have hsign : ∀ {c : F32}, fval c ≠ 0 → (0 < fval c ↔ fsign c = false) := fun hc => by
    rw [← Bool.not_eq_true, ← fval_neg_iff hc]
    omega
  rw [Bool.eq_iff_iff, decide_eq_true_iff, mul_neg_iff, fval_neg_iff ha, fval_neg_iff hb, hsign ha, hsign hb]
  cases fsign a <;> cases fsign b <;> decide

/-! ### The obligations on rounding -/

/-- Settles O40: the exact sum in units of `2^-149` through `withSign_roundBits_roundsToNearest`. -/
theorem addRoundsToNearest : Obligations.AddRoundsToNearest := by
  intro a b ha hb x r
  have hr : r = withSign (if x = 0 then fsign a && fsign b else decide (x < 0)) (roundBits 0 x.natAbs) := by
    rw [show r = fadd a b from rfl, fadd_of_isFinite ha hb]
    change (if x = 0 then _ else withSign (decide (x < 0)) (roundBits 0 x.natAbs)) = _
    split
    next h => rw [h, Int.natAbs_zero, roundBits_zero]
    next => rfl
  have hnearest : RoundsToNearest 0 x r := by
    rw [hr]
    exact withSign_roundBits_roundsToNearest fun h => if_neg h
  simpa only [RoundsToNearest, Nat.add_zero, pow_zero, mul_one] using hnearest

/-- Settles O41: the exact product in units of `2^-298` through `withSign_roundBits_roundsToNearest`. -/
theorem mulRoundsToNearest : Obligations.MulRoundsToNearest := by
  intro a b ha hb x r
  have hr : r = withSign (fsign a != fsign b) (roundBits 149 x.natAbs) := by
    rw [Int.natAbs_mul, natAbs_fval, natAbs_fval]
    exact fmul_of_isFinite ha hb
  have hnearest : RoundsToNearest 149 x r := by
    rw [hr]
    exact withSign_roundBits_roundsToNearest sign_mul_fval
  exact hnearest

/-! ### The identities -/

theorem fmul_comm (a b : F32) : fmul a b = fmul b a := by
  rw [fmul, fmul, Bool.or_comm (isNaN a), Bool.or_comm (isInf a), Bool.or_comm (isFinite a && fmag a == 0), bne_comm, Nat.mul_comm]

/-- Rounding does not depend on the unit. -/
theorem roundBits_unit (k n j : Nat) : roundBits (k + j) (n * 2 ^ j) = roundBits k n := by
  obtain rfl | hn := eq_or_ne n 0
  · rw [Nat.zero_mul, roundBits_zero, roundBits_zero]
  · have hunit : 0 < 2 ^ j := Nat.two_pow_pos j
    have hlog : Nat.log2 (n * 2 ^ j) = Nat.log2 n + j := by
      rw [Nat.log2_eq_iff (by positivity), pow_add, Nat.add_right_comm, pow_add]
      exact ⟨Nat.mul_le_mul_right _ (Nat.log2_self_le hn), Nat.mul_lt_mul_of_pos_right Nat.lt_log2_self hunit⟩
    have hlast : lastPlace (k + j) (n * 2 ^ j) = lastPlace k n + j := by
      rw [lastPlace, lastPlace, hlog]
      omega
    have hup : roundsUp (k + j) (n * 2 ^ j) = roundsUp k n := by
      rw [Bool.eq_iff_iff]
      simp only [roundsUp, hlast, pow_add, Nat.mul_mod_mul_right, Nat.mul_div_mul_right _ _ hunit, ← Nat.mul_assoc, Bool.or_eq_true,
        Bool.and_eq_true, decide_eq_true_eq, beq_iff_eq, Nat.mul_lt_mul_right hunit, Nat.mul_left_inj hunit.ne']
    rw [roundBits_eq_min, roundBits_eq_min, nearestBits, nearestBits, hup, lowerBits, lowerBits, hlast, pow_add,
      Nat.mul_div_mul_right _ _ hunit, Nat.add_sub_add_right]

/-- `1` is neutral for products of finite words. -/
theorem fmul_one_of_isFinite {x : F32} (h : isFinite x = true) : fmul x 0x3F800000 = x := by
  have hmag : fmag 0x3F800000 = 2 ^ 149 := by
    rw [fmag_eq_bitsValue, show magBits 0x3F800000 = 126 * 2 ^ 23 + 2 ^ 23 by decide, bitsValue_place (by decide) (.inr le_rfl), ← pow_add]
  rw [fmul_of_isFinite h (by decide), hmag, ← Nat.zero_add 149, roundBits_unit, roundBits_fmag h, show fsign 0x3F800000 = false by decide,
    Bool.bne_false, withSign_fsign_magBits]

theorem fneg_zero {z : F32} (h : z = 0 ∨ z = 0x80000000) : fneg z = 0 ∨ fneg z = 0x80000000 := by
  obtain rfl | rfl := h
  · exact .inr (by decide)
  · exact .inl (by decide)

/-- `+0` times a finite word of positive sign is `+0` (R55). -/
theorem zero_fmul_of_msb {c : F32} (h : isFinite c = true) (hsign : c.msb = false) : fmul 0 c = 0 := by
  rw [fmul_zero_sign (fmul_zero_of_isFinite h).2, hsign]
  rfl

/-- Settles O44: `fadd_comm` and `fmul_comm`; `fneg` bit by bit. -/
theorem commuteAndNegate : Obligations.CommuteAndNegate := by
  intro a b
  refine ⟨fadd_comm a b, fmul_comm a b, fun _ _ => rfl, fun j hj => ?_, ?_⟩
  · have hlow : (0x80000000 : F32).getLsbD j = false := by
      interval_cases j <;> decide
    rw [fneg, BitVec.getLsbD_xor, hlow, Bool.xor_false]
  · have htop : (0x80000000 : F32).getLsbD 31 = true := by decide
    rw [fneg, BitVec.getLsbD_xor, htop, Bool.xor_true]

/-- Settles O45: a factor `1` gives the word, a factor `+0` a zero, which does not change the sum. -/
theorem multiplierIdentities : Obligations.MultiplierIdentities := by
  refine ⟨fun x1 x2 h1 h2 hne1 hne2 => ?_, fun c1 c2 h1 h2 hs1 hs2 => ?_⟩
  · have hadd : ∀ {x z : F32}, isFinite x = true → fval x ≠ 0 → z = 0 ∨ z = 0x80000000 → fadd x z = x := fun hx hne hz =>
      (fadd_comm ..).trans (zero_fadd hz (isNaN_of_isFinite hx) hne)
    have hzero1 := (fmul_zero_of_isFinite h1).1
    have hzero2 := (fmul_zero_of_isFinite h2).1
    rw [cm, cm, fsub, fsub, fmul_one_of_isFinite h1, fmul_one_of_isFinite h2]
    constructor
    · rw [hadd h1 hne1 hzero2, hadd h2 hne2 (fneg_zero hzero1)]
    · rw [zero_fadd hzero1 (isNaN_of_isFinite h2) hne2,
        zero_fadd hzero2 (isNaN_of_isFinite (by rwa [isFinite_fneg])) (by rwa [fval_fneg, neg_ne_zero])]
  · rw [cm, zero_fmul_of_msb h1 hs1, zero_fmul_of_msb h2 hs2]
    decide

end Sys2Proof.Proofs
end
